-- ==== Sys2Proof/Word.lean ====
section
/-! DEFINITION. The words that travel on the three lines. -/

namespace Sys2Proof

/-- One character of a line: eight data bits (13.4). -/
abbrev Byte := BitVec 8

/-- A two-byte field, sent high byte first (13.1). -/
abbrev Word := BitVec 16

/-- A four-byte field, sent high byte first (13.1). -/
abbrev Quad := BitVec 32

end Sys2Proof
end

