-- ==== Sys2Proof/Syntax.lean ====
section
/-! DEFINITION. The commands of the block: one constructor per row of spec/opcode_table.json. The operands are the
model's reading of the rows (log 6). -/

namespace Sys2Proof

/-- The three lines (00_scope.md section 2). -/
inductive Port where
  | b | g1 | g2
  deriving DecidableEq, Repr

/-- The two gallery ports, which an actuator record can name (07 section 7.1). -/
inductive Gallery where
  | g1 | g2
  deriving DecidableEq, Repr

/-- A gallery port as a line. -/
def Gallery.line : Gallery → Port
  | .g1 => .g1
  | .g2 => .g2

/-- A request as the management responder takes it (R168): the Channel of its MANAGE frame, its sequence tag, and
the payload bytes after the tag. -/
structure Request where
  channel : Byte
  tag : Word
  params : List Byte
  deriving DecidableEq, Repr

/-- The commands. -/
inductive Instr where
  /-- R3: the bytes of a frame come in on a port, start byte to check bytes, with no break or silence in them. -/
  | frameArrival (p : Port) (bytes : List Byte)
  /-- R1: the line of a port has been silent for at least 2 ms. -/
  | lineSilence (p : Port)
  /-- R1: a break, or a character with a missing stop bit. -/
  | receiveBreak (p : Port)
  /-- R7: the port may begin to transmit. -/
  | transmissionStart (p : Port)
  /-- R8: the rest of the transmission reads back equal. -/
  | transmissionComplete (p : Port)
  /-- R9: a line fault in the transmission. -/
  | transmissionAbandon (p : Port)
  /-- R12: the service of the SEND_PENDING marks of a gallery port that the end of transmission just before it owes. -/
  | sendPendingService (g : Gallery)
  /-- R50: one second of the time base. -/
  | clockAdvance
  /-- R184: a checkpoint due starts. -/
  | checkpointStart
  /-- R185: the checkpoint write ends; `bad` are the objects whose record reads back different. -/
  | checkpointWriteEnd (bad : List (Fin 128))
  /-- R183: a waiting save starts. -/
  | saveStart
  /-- R183: the save ends; `equal` says that every byte reads back equal. -/
  | saveEnd (equal : Bool)
  /-- R40. -/
  | staleTimerExpiry (p : Fin 64)
  /-- R45. -/
  | presenceStaleExpiry (p : Fin 64)
  /-- R44. -/
  | stuckTimerExpiry (p : Fin 64)
  /-- R75. -/
  | absenceTimerExpiry (z : Fin 16)
  /-- R115. -/
  | feedbackTimerExpiry (a : Fin 64)
  /-- R169: a MANAGE payload that is too short for a name and a tag, or whose name names no request. -/
  | unknownRequest (channel : Byte) (payload : List Byte)
  /-- R171. -/
  | queryDevice (r : Request)
  /-- R48. -/
  | queryPoint (r : Request)
  /-- R116. -/
  | queryActuator (r : Request)
  /-- R101. -/
  | queryObject (r : Request)
  /-- R78. -/
  | queryZone (r : Request)
  /-- R53. -/
  | setTime (r : Request)
  /-- R172. -/
  | loadOpen (r : Request)
  /-- R173. -/
  | loadEntry (r : Request)
  /-- R174. -/
  | loadAbort (r : Request)
  /-- R175. -/
  | readEntry (r : Request)
  /-- R158. -/
  | overridePush (r : Request)
  /-- R159. -/
  | overridePop (r : Request)
  /-- R160. -/
  | overrideCancel (r : Request)
  /-- R161. -/
  | overrideClear (r : Request)
  /-- R91. -/
  | objectPeriodStart (r : Request)
  /-- R92. -/
  | doseSet (r : Request)
  /-- R179. -/
  | collectNotices (r : Request)
  /-- R183. -/
  | saveConfig (r : Request)
  /-- R187: the request RESET with the parameter HARD. -/
  | resetHard (channel : Byte) (tag : Word)
  /-- R188: the request RESET with the parameter SOFT. -/
  | resetSoft (channel : Byte) (tag : Word)
  /-- R188, R189: power is applied or the reset input asserted, and released. Of a checkpoint write in progress at
  that moment, the records of the objects `written` stood complete and those of `torn` were in the course of being
  written. -/
  | powerOnReset (written torn : List (Fin 128))
  /-- R189. -/
  | resetComplete
  /-- R1: one byte on the line of a port. -/
  | byteReceived (p : Port) (byte : Byte)
  deriving DecidableEq, Repr

end Sys2Proof
end

