-- ==== Sys2Proof/Decode.lean ====
section
/-! DEFINITION. Commands from words. The block decodes no instruction words: no row of spec/opcode_table.json gives
bits, so no word spells a command (log 6). -/

/-- The command that a word of `nbits` bits spells by the table's bits: none, since no row gives bits. -/
def Sys2Proof.decodeTableWord (_nbits _w : Nat) : Option Sys2Proof.Instr := none
end

