-- ==== Sys2Proof/Config.lean ====
section
/-! DEFINITION. The values the manual leaves open. Neither constant has a body: nothing proves a value of it. -/

namespace Sys2Proof.Config

/-- The `n`-th free choice a run of the block makes: an order of units or deliveries that the manual leaves
without an order (R4, R52, R90, R97, R145, R155, R162, R177), or the state after a break in an IDLE assembly
(R1). DESIGN CHOICE, log 3 and log 7. -/
opaque freeChoice : Nat → Nat

/-- Whether the first of two generations counts as newer where R185 does not say: they are equal, or their
difference modulo 4,294,967,296 is 2,147,483,648. DESIGN CHOICE, log 8. -/
opaque newerOnTie : BitVec 32 → BitVec 32 → Bool

end Sys2Proof.Config
end

