-- ==== Sys2Proof/Machine/Codec.lean ====
section
/-! DEFINITION. Bytes on the line: fields high byte first (13.1), the CRC (R190), and the frames the part builds. -/

namespace Sys2Proof.Machine

/-- The start byte (13.1). -/
def startByte : Byte := 0x7E

/-- The seven frame kinds (13.1). -/
inductive FrameKind where
  | sample | presence | feedback | command | manage | reply | notice
  deriving DecidableEq, Repr

/-- Kind codes (13.1). -/
def FrameKind.code : FrameKind → Byte
  | .sample => 0x01
  | .presence => 0x02
  | .feedback => 0x03
  | .command => 0x04
  | .manage => 0x05
  | .reply => 0x06
  | .notice => 0x07

/-- The kind a Kind field names, if any (13.1). -/
def kindOfCode (c : Byte) : Option FrameKind :=
  [FrameKind.sample, .presence, .feedback, .command, .manage, .reply, .notice].find? (·.code == c)

/-- One bit into the CRC register (R190). -/
def crcBit (reg : Word) (bit : Bool) : Word :=
  if reg.msb != bit then (reg <<< 1) ^^^ 0x1021 else reg <<< 1

/-- One byte into the CRC register, most significant bit first (R190). -/
def crcByte (reg : Word) (b : Byte) : Word :=
  [7, 6, 5, 4, 3, 2, 1, 0].foldl (fun r i => crcBit r (b.getLsbD i)) reg

/-- The CRC of a run of bytes, from a register of all ones (R190). -/
def crc (bytes : List Byte) : Word := bytes.foldl crcByte 0xFFFF

/-- A two-byte field, high byte first. -/
def be16 (w : Word) : List Byte := [w.extractLsb' 8 8, w.extractLsb' 0 8]

/-- A four-byte field, high byte first. -/
def be32 (w : Quad) : List Byte :=
  [w.extractLsb' 24 8, w.extractLsb' 16 8, w.extractLsb' 8 8, w.extractLsb' 0 8]

/-- An unsigned number in one byte. -/
def num8 (n : Nat) : List Byte := [BitVec.ofNat 8 n]

/-- An unsigned number in two bytes. -/
def num16 (n : Nat) : List Byte := be16 (BitVec.ofNat 16 n)

/-- An unsigned number in four bytes. -/
def num32 (n : Nat) : List Byte := be32 (BitVec.ofNat 32 n)

/-- A signed number in two bytes, two's complement (13.1). -/
def int16 (x : Int) : List Byte := be16 (BitVec.ofInt 16 x)

/-- A signed number in four bytes, two's complement. -/
def int32 (x : Int) : List Byte := be32 (BitVec.ofInt 32 x)

/-- A yes or no in one byte, 0x01 or 0x00. 13.2 lists these codes for the reading, the aggregate, the loop state and the step
flag. For the items in use, SEND_PENDING, RATE_HOLD, climate hold and MORE of a reply it gives the size alone, and the codes
are the model's. DESIGN CHOICE, log 16. -/
def flag8 (b : Bool) : List Byte := [if b then 0x01 else 0x00]

/-- A bit of a flags byte. -/
def flagBit (b : Bool) (mask : Nat) : Nat := if b then mask else 0

/-- Byte `i` of a run of bytes; the callers have checked that it is there. -/
def byteAt (bs : List Byte) (i : Nat) : Byte := bs.getD i 0

/-- The byte at offset `i`, as a number. -/
def nat8At (bs : List Byte) (i : Nat) : Nat := (byteAt bs i).toNat

/-- The two-byte field at offset `i`. -/
def wordAt (bs : List Byte) (i : Nat) : Word := byteAt bs i ++ byteAt bs (i + 1)

/-- The two-byte field at offset `i`, unsigned. -/
def nat16At (bs : List Byte) (i : Nat) : Nat := (wordAt bs i).toNat

/-- The two-byte field at offset `i`, two's complement. -/
def int16At (bs : List Byte) (i : Nat) : Int := (wordAt bs i).toInt

/-- The four-byte field at offset `i`. -/
def quadAt (bs : List Byte) (i : Nat) : Quad := wordAt bs i ++ wordAt bs (i + 2)

/-- The bytes of a frame from Kind through the last payload byte. -/
def frameBody (kind : FrameKind) (node : Word) (channel : Byte) (payload : List Byte) : List Byte :=
  [kind.code] ++ be16 node ++ [channel] ++ num8 payload.length ++ payload

/-- A frame the part builds (R190). -/
def buildFrame (kind : FrameKind) (node : Word) (channel : Byte) (payload : List Byte) : List Byte :=
  [startByte] ++ frameBody kind node channel payload ++ be16 (crc (frameBody kind node channel payload))

/-- A governor command (R190): Kind COMMAND and the level or setpoint in two bytes. -/
def commandFrame (node : Word) (channel : Byte) (level : Int) : List Byte :=
  buildFrame .command node channel (int16 level)

/-- Fields of a complete frame, given from its start byte on (13.1). -/
def frameNode (frame : List Byte) : Word := wordAt frame 2

/-- Channel field. -/
def frameChannel (frame : List Byte) : Byte := byteAt frame 4

/-- Length field. -/
def frameLength (frame : List Byte) : Nat := nat8At frame 5

/-- Payload. -/
def framePayload (frame : List Byte) : List Byte := (frame.drop 6).take (frameLength frame)

/-- R2, R190: the CRC from Kind through the payload equals the two check bytes. -/
def frameGood (frame : List Byte) : Bool :=
  crc ((frame.drop 1).take (5 + frameLength frame)) == wordAt frame (6 + frameLength frame)

end Sys2Proof.Machine
end

