-- ==== Sys2Proof/Machine/Records.lean ====
section
/-! DEFINITION. The records of the eight tables. An entry that is not in use is `none`. -/

namespace Sys2Proof.Machine

/-- Line rates in bit/s (R176). -/
inductive LineRate where
  | r38400 | r115200 | r250000
  deriving DecidableEq, Repr

/-- The DEVICE entry (R176). -/
structure DeviceEntry where
  ownNode : Word
  rateB : LineRate
  rateG1 : LineRate
  rateG2 : LineRate
  /-- W, the unset-clock window in minutes. -/
  window : Nat
  /-- The dose-loss allowance in per cent. -/
  allowance : Nat
  deriving DecidableEq, Repr

/-- The Kind field of a classification entry (02 section 2.1). -/
inductive ClassKind where
  | any | sample | presence | feedback | command
  deriving DecidableEq, Repr

/-- The Arrival port field (R15). -/
inductive ArrivalPort where
  | b | g1 | g2 | anyG
  deriving DecidableEq, Repr

/-- The Target field. PASS and DROP keep the target index byte they were written with (R191). -/
inductive Target where
  | toPoint (p : Fin 64)
  | toActuator (a : Fin 64)
  | pass (index : Byte)
  | drop (index : Byte)
  deriving DecidableEq, Repr

/-- A classification entry in use (02 section 2.1, 13.3). The bytes a flag makes absent are kept as they were
written, because READ_ENTRY gives them back (R191). -/
structure ClassEntry where
  kind : ClassKind
  port : ArrivalPort
  nodeValue : Word
  nodeMask : Word
  channelValue : Byte
  channelMask : Byte
  lengthPresent : Bool
  length : Byte
  presencePresent : Bool
  presenceIsPresent : Bool
  target : Target
  /-- 0 for no Data mask, 1 to 8 otherwise. -/
  maskLength : Nat
  /-- The eight mask bytes as written; the first `maskLength` are the Data mask. -/
  mask : List Byte
  deriving DecidableEq, Repr

/-- The kinds of measurement points (03 section 3.1). -/
inductive MeasKind where
  | illum | uv | temp | rh
  deriving DecidableEq, Repr

/-- The record of a measurement point (R28). -/
structure MeasRec where
  kind : MeasKind
  zone : Fin 16
  k : Nat
  low : Int
  high : Int
  stepLimit : Nat
  staleLimit : Nat
  errThreshold : Nat
  warmUp : Nat
  deriving DecidableEq, Repr

/-- The record of a presence point (R28); the stuck limit is in minutes. -/
structure PresRec where
  zone : Fin 16
  staleLimit : Nat
  stuckLimit : Nat
  deriving DecidableEq, Repr

/-- A point record in use. -/
inductive PointRec where
  | meas (r : MeasRec)
  | pres (r : PresRec)
  deriving DecidableEq, Repr

/-- The fields of an actuator record that its kind holds (R105). -/
inductive ActKind where
  | spot (object : Fin 128) (kp ki maxLevel deadband : Nat)
  | blind (maxLevel deadband : Nat)
  | rhSp (slew : Nat)
  | tempSp (slew : Nat)
  deriving DecidableEq, Repr

/-- Feedback configuration (07 section 7.1); the timeout is in seconds. -/
structure FeedbackRec where
  tolerance : Nat
  timeout : Nat
  deriving DecidableEq, Repr

/-- An actuator record in use (07 section 7.1). -/
structure ActRec where
  kind : ActKind
  port : Gallery
  node : Word
  channel : Byte
  zone : Fin 16
  feedback : Option FeedbackRec
  deriving DecidableEq, Repr

/-- The UV point of an object with its ceiling (R80: present together). -/
structure UvRec where
  point : Fin 64
  ceiling : Nat
  deriving DecidableEq, Repr

/-- An object record in use (06 section 6.1). -/
structure ObjectRec where
  id : Quad
  zone : Fin 16
  lightPoint : Fin 64
  uv : Option UvRec
  spot : Option (Fin 64)
  /-- B in klx·h. -/
  budget : Nat
  /-- P in days. -/
  period : Nat
  /-- C in lux. -/
  ceiling : Nat
  /-- F in lux. -/
  floorLux : Nat
  tolerance : Nat
  deriving DecidableEq, Repr

/-- The four band limits of a quantity and its recovery hold (05 section 5.1). -/
structure Band where
  innerLow : Int
  innerHigh : Int
  outerLow : Int
  outerHigh : Int
  hold : Nat
  deriving DecidableEq, Repr

/-- A zone record in use (05 section 5.1). -/
structure ZoneRec where
  rh : Band
  temp : Band
  rateLimit : Nat
  rateRelease : Nat
  blindStep : Nat
  blindMax : Nat
  reopenHold : Nat
  reopenMargin : Nat
  absenceTimeout : Nat
  standby : Nat
  factor : Nat
  deriving DecidableEq, Repr

/-- A week entry (04 section 4.3). -/
structure WeekEntry where
  openMinute : Nat
  closeMinute : Nat
  deriving DecidableEq, Repr

/-- A NOTICE entry (R176). -/
structure NoticeEntry where
  enter : Bool
  exit : Bool
  deriving DecidableEq, Repr

/-- The eight tables (11.4). `holidays` are SCHEDULE entries 7 to 22. -/
structure Tables where
  device : DeviceEntry
  classifier : Vector (Option ClassEntry) 96
  points : Vector (Option PointRec) 64
  actuators : Vector (Option ActRec) 64
  objects : Vector (Option ObjectRec) 128
  zones : Vector (Option ZoneRec) 16
  week : Vector WeekEntry 7
  holidays : Vector (Option Nat) 16
  notices : Vector NoticeEntry 324
  deriving DecidableEq, Repr

end Sys2Proof.Machine
end

