-- ==== Sys2Proof/Machine/Formats.lean ====
section
/-! DEFINITION. Codes and table entries (13.2, 13.3, R191): every entry's decoding with the checks that need no other
table (R21, R22, R28, R56, R61, R80, R105, R176), and its encoding. -/

namespace Sys2Proof.Machine

/-- The statuses of a REPLY (11.1). -/
inductive Status where
  | ok | busy | malformed | unknownRequest | outOfRange | notInUse | notFound | stackFull | stackEmpty | notOwner
  | loadNotOpen | loadAlreadyOpen | storeFault
  deriving DecidableEq, Repr

/-- Status codes (13.2). -/
def Status.code : Status → Byte
  | .ok => 0x00
  | .busy => 0x01
  | .malformed => 0x02
  | .unknownRequest => 0x03
  | .outOfRange => 0x04
  | .notInUse => 0x05
  | .notFound => 0x06
  | .stackFull => 0x07
  | .stackEmpty => 0x08
  | .notOwner => 0x09
  | .loadNotOpen => 0x0A
  | .loadAlreadyOpen => 0x0B
  | .storeFault => 0x0C

/-- The eight tables by name (11.4). -/
inductive TableName where
  | device | classifier | point | actuator | object | zone | schedule | notice
  deriving DecidableEq, Repr

/-- Table codes (13.2). -/
def TableName.code : TableName → Nat
  | .device => 1
  | .classifier => 2
  | .point => 3
  | .actuator => 4
  | .object => 5
  | .zone => 6
  | .schedule => 7
  | .notice => 8

/-- The table a code names, if any. -/
def tableOfCode (c : Nat) : Option TableName :=
  [TableName.device, .classifier, .point, .actuator, .object, .zone, .schedule, .notice].find? (·.code == c)

/-- Number of entries (11.4). -/
def TableName.size : TableName → Nat
  | .device => 1
  | .classifier => 96
  | .point => 64
  | .actuator => 64
  | .object => 128
  | .zone => 16
  | .schedule => 23
  | .notice => 324

/-- An index below a bound, if it is. -/
def index? (n bound : Nat) : Option (Fin bound) := if h : n < bound then some ⟨n, h⟩ else none

/-- `lo ≤ n ≤ hi`. -/
def within (lo hi n : Nat) : Bool := decide (lo ≤ n) && decide (n ≤ hi)

/-- `lo ≤ x ≤ hi` for signed values. -/
def withinInt (lo hi x : Int) : Bool := decide (lo ≤ x) && decide (x ≤ hi)

/-- A value kept when a check holds, and OUT_OF_RANGE otherwise. -/
def checked {α : Type} (b : Bool) (x : α) : Except Status α := if b then .ok x else .error .outOfRange

/-! ### DEVICE -/

/-- Line rate codes (13.3). -/
def LineRate.code : LineRate → Nat
  | .r38400 => 1
  | .r115200 => 2
  | .r250000 => 3

/-- The rate a code names, if any. -/
def rateOfCode (c : Nat) : Option LineRate :=
  [LineRate.r38400, .r115200, .r250000].find? (·.code == c)

/-- R176. -/
def DeviceEntry.valid (e : DeviceEntry) : Bool := within 60 1440 e.window && decide (e.allowance ≤ 100)

/-- A DEVICE entry, 8 bytes (13.3). -/
def decodeDevice (bs : List Byte) : Except Status DeviceEntry :=
  if bs.length < 8 then .error .malformed else
  match rateOfCode (nat8At bs 2), rateOfCode (nat8At bs 3), rateOfCode (nat8At bs 4) with
  | some b, some g1, some g2 =>
    let e : DeviceEntry := ⟨wordAt bs 0, b, g1, g2, nat16At bs 5, nat8At bs 7⟩
    checked e.valid e
  | _, _, _ => .error .outOfRange

/-- Encoding of the DEVICE entry. -/
def encodeDevice (e : DeviceEntry) : List Byte :=
  be16 e.ownNode ++ num8 e.rateB.code ++ num8 e.rateG1.code ++ num8 e.rateG2.code ++ num16 e.window ++ num8 e.allowance

/-! ### CLASSIFIER -/

/-- Codes of the Kind field (13.3). -/
def ClassKind.code : ClassKind → Nat
  | .any => 0
  | .sample => 1
  | .presence => 2
  | .feedback => 3
  | .command => 4

/-- The kind a code names, if any. -/
def classKindOfCode (c : Nat) : Option ClassKind :=
  [ClassKind.any, .sample, .presence, .feedback, .command].find? (·.code == c)

/-- Codes of the Arrival port field (13.3). -/
def ArrivalPort.code : ArrivalPort → Nat
  | .b => 0
  | .g1 => 1
  | .g2 => 2
  | .anyG => 3

/-- The arrival port a code names, if any. -/
def arrivalOfCode (c : Nat) : Option ArrivalPort :=
  [ArrivalPort.b, .g1, .g2, .anyG].find? (·.code == c)

/-- The target that a code and an index byte name, if any (R21). -/
def targetOfCode (code : Nat) (index : Byte) : Option Target :=
  match code with
  | 1 => (index? index.toNat 64).map .toPoint
  | 2 => (index? index.toNat 64).map .toActuator
  | 3 => some (.pass index)
  | 4 => some (.drop index)
  | _ => none

/-- Encoding of a target and its index. -/
def Target.encode : Target → List Byte
  | .toPoint p => num8 1 ++ num8 p.val
  | .toActuator a => num8 2 ++ num8 a.val
  | .pass i => num8 3 ++ [i]
  | .drop i => num8 4 ++ [i]

/-- The Data mask of an entry, if it holds one (R17). -/
def ClassEntry.dataMask (e : ClassEntry) : Option (List Byte) :=
  if e.maskLength = 0 then none else some (e.mask.take e.maskLength)

/-- The pairing of Kind, Arrival port and target (R22). -/
def ClassEntry.pairs (e : ClassEntry) : Bool :=
  match e.target with
  | .pass _ => true
  | .drop _ => true
  | .toPoint _ => (e.kind == .sample || e.kind == .presence) && e.port != .b
  | .toActuator _ => (e.kind == .feedback && e.port != .b) || (e.kind == .command && e.port == .b)

/-- Whether an entry is of the kind and target that hold a Presence value (R21). -/
def ClassEntry.forPresence (e : ClassEntry) : Bool :=
  e.kind == .presence && (match e.target with
    | .toPoint _ => true
    | .toActuator _ => false
    | .pass _ => false
    | .drop _ => false)

/-- R21 and R22, the checks that read no record. -/
def ClassEntry.valid (e : ClassEntry) : Bool :=
  (!e.lengthPresent || decide (e.length.toNat ≤ 64)) && decide (e.maskLength ≤ 8) &&
    (e.maskLength == 0 || (e.mask.take e.maskLength).any (· != 0)) && (e.presencePresent == e.forPresence) && e.pairs

/-- A classification entry, 21 bytes (13.3, R24, R191). -/
def decodeClass (bs : List Byte) : Except Status (Option ClassEntry) :=
  if bs.length < 21 then .error .malformed else
  if !(byteAt bs 0).getLsbD 0 then .ok none else
  match classKindOfCode (nat8At bs 1), arrivalOfCode (nat8At bs 2), targetOfCode (nat8At bs 10) (byteAt bs 11) with
  | some kind, some port, some target =>
    let e : ClassEntry := {
      kind, port, target
      nodeValue := wordAt bs 3
      nodeMask := wordAt bs 5
      channelValue := byteAt bs 7
      channelMask := byteAt bs 8
      lengthPresent := (byteAt bs 0).getLsbD 1
      length := byteAt bs 9
      presencePresent := (byteAt bs 0).getLsbD 3
      presenceIsPresent := (byteAt bs 0).getLsbD 2
      maskLength := nat8At bs 12
      mask := (bs.drop 13).take 8 }
    checked e.valid (some e)
  | _, _, _ => .error .outOfRange

/-- The cleared encoding of an entry of `n` bytes (R191). -/
def cleared (n : Nat) : List Byte := List.replicate n 0

/-- Encoding of a classification entry. -/
def encodeClass : Option ClassEntry → List Byte
  | none => cleared 21
  | some e =>
    num8 (1 + flagBit e.lengthPresent 2 + flagBit e.presenceIsPresent 4 + flagBit e.presencePresent 8) ++
      num8 e.kind.code ++ num8 e.port.code ++ be16 e.nodeValue ++ be16 e.nodeMask ++ [e.channelValue, e.channelMask, e.length] ++
      e.target.encode ++ num8 e.maskLength ++ e.mask

/-! ### POINT -/

/-- Codes of the measurement kinds (13.3). -/
def MeasKind.code : MeasKind → Nat
  | .illum => 1
  | .uv => 2
  | .temp => 3
  | .rh => 4

/-- The measurement kind a code names, if any. -/
def measKindOfCode (c : Nat) : Option MeasKind := [MeasKind.illum, .uv, .temp, .rh].find? (·.code == c)

/-- The kind's range (03 section 3.1). -/
def MeasKind.low : MeasKind → Int
  | .temp => -2000
  | .illum => 0
  | .uv => 0
  | .rh => 0

/-- The kind's range (03 section 3.1). -/
def MeasKind.high : MeasKind → Int
  | .illum => 65000
  | .uv => 5000
  | .temp => 6000
  | .rh => 10000

/-- Width of the kind's range (03 section 3.1). -/
def MeasKind.width (k : MeasKind) : Nat := (k.high - k.low).toNat

/-- A value of a measurement kind in a two-byte field: signed for TEMP (13.1). -/
def MeasKind.value (k : MeasKind) (bs : List Byte) (i : Nat) : Int :=
  if k = .temp then int16At bs i else (nat16At bs i : Int)

/-- Staleness limit: 0, or 5 to 3600 s. -/
def staleLimitOk (n : Nat) : Bool := n == 0 || within 5 3600 n

/-- R28 for a measurement point. -/
def MeasRec.valid (r : MeasRec) : Bool :=
  within 1 4096 r.k && withinInt r.kind.low r.kind.high r.low && withinInt r.kind.low r.kind.high r.high &&
    decide (r.low < r.high) && decide (r.stepLimit ≤ r.kind.width) && staleLimitOk r.staleLimit &&
    within 1 63 r.errThreshold && within 1 16 r.warmUp

/-- R28 for a presence point. -/
def PresRec.valid (r : PresRec) : Bool := staleLimitOk r.staleLimit && within 10 1440 r.stuckLimit

/-- A point entry, 17 bytes (13.3, R28, R191). -/
def decodePoint (bs : List Byte) : Except Status (Option PointRec) :=
  if bs.length < 17 then .error .malformed else
  match nat8At bs 0 with
  | 0 => .ok none
  | 1 =>
    match index? (nat8At bs 2) 16, measKindOfCode (nat8At bs 1) with
    | some zone, some kind =>
      let r : MeasRec := ⟨kind, zone, nat16At bs 3, kind.value bs 5, kind.value bs 7, nat16At bs 9, nat16At bs 11,
        nat8At bs 13, nat8At bs 14⟩
      checked (r.valid && nat16At bs 15 == 0) (some (.meas r))
    | some zone, none =>
      let r : PresRec := ⟨zone, nat16At bs 11, nat16At bs 15⟩
      checked (nat8At bs 1 == 5 && r.valid && nat16At bs 3 == 0 && nat16At bs 5 == 0 && nat16At bs 7 == 0 && nat16At bs 9 == 0 &&
        nat8At bs 13 == 0 && nat8At bs 14 == 0) (some (.pres r))
    | none, _ => .error .outOfRange
  | _ => .error .outOfRange

/-- Encoding of a point entry. -/
def encodePoint : Option PointRec → List Byte
  | none => cleared 17
  | some (.meas r) =>
    num8 1 ++ num8 r.kind.code ++ num8 r.zone.val ++ num16 r.k ++ int16 r.low ++ int16 r.high ++ num16 r.stepLimit ++
      num16 r.staleLimit ++ num8 r.errThreshold ++ num8 r.warmUp ++ num16 0
  | some (.pres r) =>
    num8 1 ++ num8 5 ++ num8 r.zone.val ++ cleared 8 ++ num16 r.staleLimit ++ cleared 2 ++ num16 r.stuckLimit

/-! ### ACTUATOR -/

/-- Codes of the actuator kinds (13.3). -/
def ActKind.code : ActKind → Nat
  | .spot _ _ _ _ _ => 1
  | .blind _ _ => 2
  | .rhSp _ => 3
  | .tempSp _ => 4

/-- R105 and R191: the fields that the kind holds lie in their ranges and the others are zero. -/
def actKindOf (bs : List Byte) : Option ActKind :=
  let object := nat8At bs 7
  let kp := nat16At bs 8
  let ki := nat16At bs 10
  let maxLevel := nat16At bs 12
  let deadband := nat8At bs 14
  let slew := nat16At bs 15
  let levels := within 1 1000 maxLevel && within 1 100 deadband
  let noLoop := object == 0 && kp == 0 && ki == 0
  let noLevels := maxLevel == 0 && deadband == 0
  match nat8At bs 1 with
  | 1 =>
    match index? object 128 with
    | some o => if levels && slew == 0 then some (.spot o kp ki maxLevel deadband) else none
    | none => none
  | 2 => if noLoop && levels && slew == 0 then some (.blind maxLevel deadband) else none
  | 3 => if noLoop && noLevels && within 1 500 slew then some (.rhSp slew) else none
  | 4 => if noLoop && noLevels && within 1 500 slew then some (.tempSp slew) else none
  | _ => none

/-- Feedback fields: both in range under the flag, both zero without it (R105, R191). `none` is a refusal. -/
def feedbackOf (bs : List Byte) : Option (Option FeedbackRec) :=
  let tolerance := nat8At bs 17
  let timeout := nat16At bs 18
  if (byteAt bs 0).getLsbD 1 then
    if decide (tolerance ≤ 100) && within 5 600 timeout then some (some ⟨tolerance, timeout⟩) else none
  else if tolerance == 0 && timeout == 0 then some none else none

/-- Port byte of an actuator entry. -/
def galleryOfCode : Nat → Option Gallery
  | 1 => some .g1
  | 2 => some .g2
  | _ => none

/-- Port code of an actuator entry. -/
def galleryCode : Gallery → Nat
  | .g1 => 1
  | .g2 => 2

/-- An actuator entry, 20 bytes (13.3, R105, R191). -/
def decodeActuator (bs : List Byte) : Except Status (Option ActRec) :=
  if bs.length < 20 then .error .malformed else
  if !(byteAt bs 0).getLsbD 0 then .ok none else
  match actKindOf bs, galleryOfCode (nat8At bs 2), index? (nat8At bs 6) 16, feedbackOf bs with
  | some kind, some port, some zone, some feedback => .ok (some ⟨kind, port, wordAt bs 3, byteAt bs 5, zone, feedback⟩)
  | _, _, _, _ => .error .outOfRange

/-- The bytes of the fields that depend on the kind: offsets 7 to 16. -/
def ActKind.encode : ActKind → List Byte
  | .spot o kp ki maxLevel deadband => num8 o.val ++ num16 kp ++ num16 ki ++ num16 maxLevel ++ num8 deadband ++ cleared 2
  | .blind maxLevel deadband => cleared 5 ++ num16 maxLevel ++ num8 deadband ++ cleared 2
  | .rhSp slew => cleared 8 ++ num16 slew
  | .tempSp slew => cleared 8 ++ num16 slew

/-- The bytes of the feedback fields: offsets 17 to 19. -/
def encodeFeedback : Option FeedbackRec → List Byte
  | none => cleared 3
  | some f => num8 f.tolerance ++ num16 f.timeout

/-- Encoding of an actuator entry. -/
def encodeActuator : Option ActRec → List Byte
  | none => cleared 20
  | some r =>
    num8 (1 + flagBit r.feedback.isSome 2) ++ num8 r.kind.code ++ num8 (galleryCode r.port) ++ be16 r.node ++ [r.channel] ++
      num8 r.zone.val ++ r.kind.encode ++ encodeFeedback r.feedback

/-! ### OBJECT -/

/-- R80, the ranges of an object record. -/
def ObjectRec.valid (r : ObjectRec) : Bool :=
  (match r.uv with
    | some u => within 1 5000 u.ceiling
    | none => true) &&
    within 1 2000 r.budget && within 1 1000 r.period && within 1 1000 r.ceiling && decide (r.floorLux ≤ r.ceiling) &&
    decide (r.tolerance ≤ 500)

/-- UV point and UV ceiling: both under the flag, both zero without it (R80, R191). `none` is a refusal. -/
def uvOf (bs : List Byte) : Option (Option UvRec) :=
  if (byteAt bs 4).getLsbD 0 then (index? (nat8At bs 7) 64).map (fun p => some ⟨p, nat16At bs 17⟩)
  else if nat8At bs 7 == 0 && nat16At bs 17 == 0 then some none else none

/-- Spot actuator: under its flag, zero without it (R191). `none` is a refusal. -/
def spotOf (bs : List Byte) : Option (Option (Fin 64)) :=
  if (byteAt bs 4).getLsbD 1 then (index? (nat8At bs 8) 64).map some
  else if nat8At bs 8 == 0 then some none else none

/-- An object entry, 21 bytes (13.3, R80, R83, R191). -/
def decodeObject (bs : List Byte) : Except Status (Option ObjectRec) :=
  if bs.length < 21 then .error .malformed else
  if quadAt bs 0 = 0 then .ok none else
  match index? (nat8At bs 5) 16, index? (nat8At bs 6) 64, uvOf bs, spotOf bs with
  | some zone, some lightPoint, some uv, some spot =>
    let r : ObjectRec := ⟨quadAt bs 0, zone, lightPoint, uv, spot, nat16At bs 9, nat16At bs 11, nat16At bs 13, nat16At bs 15,
      nat16At bs 19⟩
    checked r.valid (some r)
  | _, _, _, _ => .error .outOfRange

/-- An optional index in one byte. -/
def indexByte {n : Nat} : Option (Fin n) → List Byte
  | none => num8 0
  | some i => num8 i.val

/-- Encoding of an object entry. -/
def encodeObject : Option ObjectRec → List Byte
  | none => cleared 21
  | some r =>
    be32 r.id ++ num8 (flagBit r.uv.isSome 1 + flagBit r.spot.isSome 2) ++ num8 r.zone.val ++ num8 r.lightPoint.val ++
      indexByte (r.uv.map (·.point)) ++ indexByte r.spot ++ num16 r.budget ++ num16 r.period ++ num16 r.ceiling ++
      num16 r.floorLux ++ num16 ((r.uv.map (·.ceiling)).getD 0) ++ num16 r.tolerance

/-! ### ZONE -/

/-- The limits of a band are nested and lie in the quantity's range, and its hold in 1 to 240 min (R61). -/
def Band.valid (b : Band) (lo hi : Int) : Bool :=
  withinInt lo hi b.innerLow && withinInt lo hi b.innerHigh && withinInt lo hi b.outerLow && withinInt lo hi b.outerHigh &&
    decide (b.outerLow ≤ b.innerLow) && decide (b.innerLow < b.innerHigh) && decide (b.innerHigh ≤ b.outerHigh) && within 1 240 b.hold

/-- R61. -/
def ZoneRec.valid (r : ZoneRec) : Bool :=
  r.rh.valid 0 10000 && r.temp.valid (-2000) 6000 && within 50 2000 r.rateLimit && decide (r.rateRelease < r.rateLimit) &&
    within 1 200 r.blindStep && decide (r.blindMax ≤ 1000) && within 1 120 r.reopenHold && decide (r.reopenMargin ≤ 500) &&
    within 1 120 r.absenceTimeout && decide (r.standby ≤ 1000) && decide (r.factor ≤ 100)

/-- A zone entry, 33 bytes (13.3, R61). -/
def decodeZone (bs : List Byte) : Except Status (Option ZoneRec) :=
  if bs.length < 33 then .error .malformed else
  match nat8At bs 0 with
  | 0 => .ok none
  | 1 =>
    let r : ZoneRec := {
      rh := ⟨nat16At bs 1, nat16At bs 3, nat16At bs 5, nat16At bs 7, nat8At bs 9⟩
      temp := ⟨int16At bs 10, int16At bs 12, int16At bs 14, int16At bs 16, nat8At bs 18⟩
      rateLimit := nat16At bs 19
      rateRelease := nat16At bs 21
      blindStep := nat8At bs 23
      blindMax := nat16At bs 24
      reopenHold := nat8At bs 26
      reopenMargin := nat16At bs 27
      absenceTimeout := nat8At bs 29
      standby := nat16At bs 30
      factor := nat8At bs 32 }
    checked r.valid (some r)
  | _ => .error .outOfRange

/-- The nine bytes of a band and its hold. -/
def Band.encode (b : Band) : List Byte :=
  int16 b.innerLow ++ int16 b.innerHigh ++ int16 b.outerLow ++ int16 b.outerHigh ++ num8 b.hold

/-- Encoding of a zone entry. -/
def encodeZone : Option ZoneRec → List Byte
  | none => cleared 33
  | some r =>
    num8 1 ++ r.rh.encode ++ r.temp.encode ++ num16 r.rateLimit ++ num16 r.rateRelease ++ num8 r.blindStep ++ num16 r.blindMax ++
      num8 r.reopenHold ++ num16 r.reopenMargin ++ num8 r.absenceTimeout ++ num16 r.standby ++ num8 r.factor

/-! ### SCHEDULE and NOTICE -/

/-- R56: an opening interval, or a closed day. -/
def WeekEntry.valid (e : WeekEntry) : Bool :=
  decide (e.openMinute ≤ 1440) && decide (e.closeMinute ≤ 1440) &&
    (decide (e.openMinute < e.closeMinute) || (e.openMinute == 0 && e.closeMinute == 0))

/-- A week entry, 4 bytes (13.3, R56). -/
def decodeWeek (bs : List Byte) : Except Status WeekEntry :=
  if bs.length < 4 then .error .malformed else
  let e : WeekEntry := ⟨nat16At bs 0, nat16At bs 2⟩
  checked e.valid e

/-- Encoding of a week entry. -/
def encodeWeek (e : WeekEntry) : List Byte := num16 e.openMinute ++ num16 e.closeMinute

/-- A holiday entry, 3 bytes (13.3, R56). -/
def decodeHoliday (bs : List Byte) : Except Status (Option Nat) :=
  if bs.length < 3 then .error .malformed else
  match nat8At bs 0 with
  | 0 => .ok none
  | 1 => .ok (some (nat16At bs 1))
  | _ => .error .outOfRange

/-- Encoding of a holiday entry. -/
def encodeHoliday : Option Nat → List Byte
  | none => cleared 3
  | some day => num8 1 ++ num16 day

/-- A NOTICE entry, 1 byte (13.3, R176). -/
def decodeNotice (bs : List Byte) : Except Status NoticeEntry :=
  if bs.length < 1 then .error .malformed else .ok ⟨(byteAt bs 0).getLsbD 0, (byteAt bs 0).getLsbD 1⟩

/-- Encoding of a NOTICE entry. -/
def encodeNotice (e : NoticeEntry) : List Byte := num8 (flagBit e.enter 1 + flagBit e.exit 2)

/-! ### The image -/

/-- Every byte of the eight tables, in table order (12.1). -/
def imageBytes (t : Tables) : List Byte :=
  encodeDevice t.device ++ t.classifier.toList.flatMap encodeClass ++ t.points.toList.flatMap encodePoint ++
    t.actuators.toList.flatMap encodeActuator ++ t.objects.toList.flatMap encodeObject ++ t.zones.toList.flatMap encodeZone ++
    t.week.toList.flatMap encodeWeek ++ t.holidays.toList.flatMap encodeHoliday ++ t.notices.toList.flatMap encodeNotice

/-- The check value of the tables (12.1). -/
def imageCheck (t : Tables) : Word := crc (imageBytes t)

end Sys2Proof.Machine
end

