-- ==== Sys2Proof/Machine/Parts.lean ====
section
/-! DEFINITION. The parts of the state, unit by unit, all of them plain data. -/

namespace Sys2Proof.Machine

/-! ### Ports (01) -/

/-- A receive assembly with the bytes it has gathered (R1). -/
inductive Assembly where
  | idle
  | assembling (bytes : List Byte)
  | discarding
  deriving DecidableEq, Repr

/-- A queued frame with its class (01 section 1.3). A GOVERNOR entry keeps the node and channel it was built with
(R107). -/
inductive QEntry where
  | relayed (frame : List Byte)
  | governor (actuator : Fin 64) (node : Word) (channel : Byte) (level : Int)
  | reply (frame : List Byte)
  | notice (frame : List Byte)
  deriving DecidableEq, Repr

/-- One port (R1, R6, R7, R13). -/
structure PortState where
  assembly : Assembly
  queue : List QEntry
  /-- The entry in transmission is the head; the value counts its bytes read back equal so far. -/
  tx : Option Nat
  /-- At least 2 ms have passed since the last byte on the line. -/
  quiet : Bool
  rate : LineRate
  /-- A changed line rate waits for the end of the transmission in progress. -/
  rateDue : Bool
  deriving DecidableEq, Repr

/-- The three ports. -/
structure Ports where
  b : PortState
  g1 : PortState
  g2 : PortState
  deriving DecidableEq, Repr

/-! ### Points (03) -/

/-- States of a measurement point in use (03 section 3.3). -/
inductive MeasState where
  | warming | valid | stale | suspect
  deriving DecidableEq, Repr

/-- Dynamic state of a measurement point (03 section 3.3). `y` and `held` are in 1/256 of the unit. -/
structure MeasDyn where
  state : MeasState
  y : Option Int
  held : Option Int
  lastRaw : Option Int
  errors : Nat
  run : Nat
  /-- Seconds left; `none` is stopped. -/
  timer : Option Nat
  deriving DecidableEq, Repr

/-- States of a presence point in use (03 section 3.4). -/
inductive PresState where
  | active | stuck | stale
  deriving DecidableEq, Repr

/-- Dynamic state of a presence point (03 section 3.4). -/
structure PresDyn where
  state : PresState
  /-- The reading is PRESENT. -/
  reading : Bool
  /-- Seconds left; `none` is stopped. -/
  staleTimer : Option Nat
  /-- Seconds left of the stuck limit; `none` is stopped. -/
  stuckTimer : Option Nat
  deriving DecidableEq, Repr

/-- Dynamic state of a point. -/
inductive PointDyn where
  | unused
  | meas (d : MeasDyn)
  | pres (d : PresDyn)
  deriving DecidableEq, Repr

/-! ### Calendar (04) -/

/-- Schedule phase (R57). -/
inductive Phase where
  | open | closed
  deriving DecidableEq, Repr

/-- The clock (04 section 4.1). -/
structure Clock where
  day : Nat
  dow : Nat
  minute : Nat
  second : Nat
  /-- CLOCK_UNSET. -/
  unset : Bool
  deriving DecidableEq, Repr

/-! ### Zones (05) -/

/-- States of a condition machine (05 section 5.6). -/
inductive CondState where
  | unknown | inBand | drift | excursion | recovering
  deriving DecidableEq, Repr

/-- Recorded side (R67). -/
inductive Side where
  | high | low
  deriving DecidableEq, Repr

/-- A condition machine (05 section 5.6). -/
structure CondMachine where
  state : CondState
  side : Option Side
  hold : Nat
  deriving DecidableEq, Repr

/-- Dynamic state of a zone (05). -/
structure ZoneDyn where
  rhEst : Option Int
  tempEst : Option Int
  rh : CondMachine
  temp : CondMachine
  /-- The RH ring, oldest entry first (R71). -/
  ring : Vector (Option Int) 60
  rate : Option Nat
  rateHold : Bool
  /-- The presence aggregate is PRESENT. -/
  present : Bool
  /-- Absence timer: seconds left, `none` stopped. -/
  absence : Option Nat
  deriving DecidableEq, Repr

/-! ### Overrides (10) -/

/-- What an override entry does, with the fields its kind holds (R153): level in lux, saved blind cap in ‰. -/
inductive OverrideBody where
  | inspection (level saved : Nat)
  | event (level saved : Nat)
  | dark (saved : Nat)
  | climateHold
  deriving DecidableEq, Repr

/-- An override entry (10 section 10.1). -/
structure Override where
  body : OverrideBody
  tag : Byte
  expiry : Option Nat
  deriving DecidableEq, Repr

/-- Light mode of a zone (R154). -/
inductive LightMode where
  | open | closed | inspect | dark
  deriving DecidableEq, Repr

/-! ### Dose accounts (06) -/

/-- State of an object (06 section 6.1). -/
inductive ObjState where
  | unused | pacing | exhausted
  deriving DecidableEq, Repr

/-- Dose account and derived values of an object (06 section 6.1). -/
structure Account where
  /-- U0. -/
  before : Nat
  /-- u. -/
  today : Nat
  /-- d. -/
  days : Nat
  /-- A. -/
  allowance : Nat
  lastPeriod : Nat
  lPerm : Nat
  state : ObjState
  estimated : Bool
  doseLost : Bool
  uvHigh : Bool
  deriving DecidableEq, Repr

/-! ### Light governor (08) and actuators (07) -/

/-- A loop context (08 section 8.1); `u` in 1/256 ‰. -/
structure LoopCtx where
  u : Nat
  ePrev : Option Int
  running : Bool
  deriving DecidableEq, Repr

/-- Blind state of a zone (08 section 8.1). -/
structure BlindState where
  cap : Nat
  reopen : Nat
  deriving DecidableEq, Repr

/-- State of an actuator (07 section 7.7). -/
inductive ActState where
  | normal | await | fault
  deriving DecidableEq, Repr

/-- Dynamic state of an actuator (07 section 7.3). -/
structure ActDyn where
  requested : Option Int
  sent : Option Int
  feedback : Option Int
  state : ActState
  /-- Seconds left, 0 when expired; `none` is stopped. -/
  timer : Option Nat
  deriving DecidableEq, Repr

/-! ### Responder and notice set (11) -/

/-- An open load (R172); `up` is the step +1. -/
structure LoadCtx where
  table : TableName
  next : Nat
  up : Bool
  remaining : Nat
  deriving DecidableEq, Repr

/-- What the later REPLY to an accepted SAVE_CONFIG carries (R168). -/
structure SaveReply where
  node : Word
  channel : Byte
  tag : Word
  deriving DecidableEq, Repr

/-- An edge of a notice source (11.6). -/
inductive Edge where
  | enter | exit
  deriving DecidableEq, Repr

/-! ### Store (12) -/

/-- What a checkpoint record holds of an account (12.3). -/
structure CkptData where
  id : Quad
  before : Nat
  today : Nat
  days : Nat
  allowance : Nat
  lastPeriod : Nat
  estimated : Bool
  doseLost : Bool
  deriving DecidableEq, Repr

/-- A good checkpoint record (R185). -/
structure Ckpt where
  generation : Quad
  data : CkptData
  deriving DecidableEq, Repr

/-- The two slots of an object; `none` is a record whose check does not hold (R185). -/
structure Slots where
  slot0 : Option Ckpt
  slot1 : Option Ckpt
  deriving DecidableEq, Repr

/-- The configuration image with its stored check (R182). -/
structure Image where
  tables : Tables
  check : Word
  deriving DecidableEq, Repr

/-- What the write path is doing (12 opening), with the copy taken at the start (R183, R184). -/
inductive WriteOp where
  | none
  | save (copy : Tables)
  | checkpoint (copy : Vector CkptData 128)
  deriving DecidableEq, Repr

/-- The store (12). -/
structure Store where
  image : Image
  slots : Vector Slots 128
  write : WriteOp
  saveWaiting : Bool
  due : Bool
  imageFault : Bool
  ckptFault : Bool
  deriving DecidableEq, Repr

/-! ### Resets (12.6) -/

/-- The three resets (00_scope.md 5.7). -/
inductive ResetKind where
  | powerOn | hard | soft
  deriving DecidableEq, Repr

/-- Where a reset stands (R187, R188). -/
inductive ResetStage where
  /-- A hard reset waits for the checkpoint write in progress to end. -/
  | hardWait
  /-- A hard reset waits for its own checkpoint write to end. -/
  | hardCheckpoint
  /-- A soft reset waits for the checkpoint writes in progress and due to end. -/
  | softWait
  /-- The tables are reloaded and every block has taken its reset values; RESET_COMPLETE is to come. -/
  | reloaded (k : ResetKind)
  deriving DecidableEq, Repr

/-- What an event of the calendar asks of one unit (R51, R52, R57, R59). -/
inductive Act where
  | zoneMinute
  | overrideMinute
  | exposureMinute
  | lightMinute
  | climateMinute
  | storeMinute (minute : Nat)
  | exposureDay (n : Nat)
  | storeDay
  | phaseChange
  | clockSetEdge
  deriving DecidableEq, Repr

end Sys2Proof.Machine
end

