-- ==== Sys2Proof/Machine/ResetValues.lean ====
section
/-! DEFINITION. The values that parts of the state take at a reset, and the factory configuration. -/

namespace Sys2Proof.Machine

/-- The factory DEVICE entry (12.5). -/
def factoryDevice : DeviceEntry := ⟨0x7F00, .r38400, .r38400, .r38400, 480, 50⟩

/-- The factory configuration (12.5). -/
def factoryTables : Tables where
  device := factoryDevice
  classifier := Vector.replicate 96 none
  points := Vector.replicate 64 none
  actuators := Vector.replicate 64 none
  objects := Vector.replicate 128 none
  zones := Vector.replicate 16 none
  week := Vector.replicate 7 ⟨0, 0⟩
  holidays := Vector.replicate 16 none
  notices := Vector.replicate 324 ⟨true, false⟩

/-- A port after a reset (R14), at a line rate. -/
def PortState.afterReset (rate : LineRate) : PortState := ⟨.discarding, [], none, false, rate, false⟩

/-- The ports after a reset, at the rates of the DEVICE entry (R14). -/
def Ports.afterReset (d : DeviceEntry) : Ports := ⟨.afterReset d.rateB, .afterReset d.rateG1, .afterReset d.rateG2⟩

/-- A condition machine after a reset (R63). -/
def CondMachine.afterReset : CondMachine := ⟨.unknown, none, 0⟩

/-- The dynamic state of a zone not in use (R63). -/
def ZoneDyn.unused : ZoneDyn where
  rhEst := none
  tempEst := none
  rh := .afterReset
  temp := .afterReset
  ring := Vector.replicate 60 none
  rate := none
  rateHold := false
  present := true
  absence := none

/-- The account of an UNUSED object (06 section 6.1). -/
def Account.unused : Account := ⟨0, 0, 0, 0, 0, 0, .unused, false, false, false⟩

/-- A loop context at an index without a SPOT actuator in use (08 section 8.1). -/
def LoopCtx.unused : LoopCtx := ⟨0, none, false⟩

/-- The dynamic state of an actuator not in use (07 section 7.3). -/
def ActDyn.unused : ActDyn := ⟨none, none, none, .normal, none⟩

/-- Source 320, STORE_FAULT (R186). -/
def sourceStoreFault : Fin 324 := 320

/-- Source 321, CLOCK_UNSET (R59). -/
def sourceClockUnset : Fin 324 := 321

/-- Source 322, DOSE_ESTIMATE (R100). -/
def sourceDoseEstimate : Fin 324 := 322

/-- Source 323, RESTARTED (R180). -/
def sourceRestarted : Fin 324 := 323

/-- A store as it is delivered: no image and no record whose check holds. DESIGN CHOICE, log 5. -/
def Store.blank : Store where
  image := ⟨factoryTables, ~~~ imageCheck factoryTables⟩
  slots := Vector.replicate 128 ⟨none, none⟩
  write := .none
  saveWaiting := false
  due := false
  imageFault := true
  ckptFault := false

end Sys2Proof.Machine
end

