-- ==== Sys2Proof/Machine/State.lean ====
section
/-! DEFINITION. The state of the block, all of it plain data, and its value right after a power-on reset. -/

namespace Sys2Proof.Machine

/-- The state of the block. -/
structure State where
  ports : Ports
  marks : Vector Bool 64
  /-- The model's own (log 6): an end of transmission on this gallery port has left its service of the marks (R12) to the
  command SEND_PENDING_SERVICE that stands next in the queue. -/
  owed : Option Gallery
  tables : Tables
  points : Vector PointDyn 64
  clock : Clock
  phase : Phase
  zones : Vector ZoneDyn 16
  overrides : Vector (List Override) 16
  heldPhase : Phase
  accounts : Vector Account 128
  loops : Vector LoopCtx 64
  blinds : Vector BlindState 16
  flags : Vector Bool 64
  actuators : Vector ActDyn 64
  load : Option LoadCtx
  save : Option SaveReply
  noticed : List (Fin 324 × Edge)
  store : Store
  resetting : Option ResetStage
  deferred : List (Fin 324 × Edge)
  held : List Act
  /-- The model's own: how many free choices have been read. -/
  free : Nat
  /-- The model's own: the commands waiting, first in first out. -/
  pending : List Instr
  deriving DecidableEq, Repr

/-- No command of this block stops: the type is empty. -/
inductive Fault where
  deriving DecidableEq, Repr

/-- Refusals. -/
inductive Refusal where
  /-- Raised only by an arm of `exec` whose command has no meaning yet; safe, nothing follows from it. No arm raises
  it. -/
  | notModelled (mnemonic : String)
  deriving DecidableEq, Repr

/-- The block right after the power-on reset of a part with a blank store: every block has taken its reset values
(R14, R49, R60, R79, R117, R121, R152, R167, R180, R182, R188) and the completion, RESET_COMPLETE, is to come (R189).
The store's content is a DESIGN CHOICE, log 5; where the reset stands is log 1. -/
def State.reset : State where
  ports := .afterReset factoryDevice
  marks := Vector.replicate 64 false
  owed := none
  tables := factoryTables
  points := Vector.replicate 64 .unused
  clock := ⟨0, 0, 0, 0, true⟩
  phase := .open
  zones := Vector.replicate 16 .unused
  overrides := Vector.replicate 16 []
  heldPhase := .open
  accounts := Vector.replicate 128 .unused
  loops := Vector.replicate 64 .unused
  blinds := Vector.replicate 16 ⟨0, 0⟩
  flags := Vector.replicate 64 false
  actuators := Vector.replicate 64 .unused
  load := none
  save := none
  noticed := []
  store := .blank
  resetting := some (.reloaded .powerOn)
  deferred := [(sourceStoreFault, .enter), (sourceClockUnset, .enter)]
  held := []
  free := 0
  pending := []

end Sys2Proof.Machine
end

