-- ==== Sys2Proof/Machine/Ops.lean ====
section
/-! DEFINITION. Arithmetic of 00_scope.md 5.3, the named updates of the state, timers, and free choices of order. -/

namespace Sys2Proof.Machine

/-! ### Arithmetic -/

/-- Rounded half away from zero: `num / den` for `den > 0` (00_scope.md 5.3). -/
def roundHalfAway (num : Int) (den : Nat) : Int :=
  if num < 0 then -(((2 * num.natAbs + den) / (2 * den) : Nat) : Int) else (((2 * num.natAbs + den) / (2 * den) : Nat) : Int)

/-- Limited to a range (00_scope.md 5.3). -/
def limit (lo hi x : Int) : Int := if x < lo then lo else if hi < x then hi else x

/-- Saturating (00_scope.md 5.3). -/
def saturate (n : Nat) : Nat := min n 4294967295

/-- A difference taken without sign. -/
def distance (a b : Int) : Nat := (a - b).natAbs

/-- A quotient rounded up to a whole number. -/
def ceilDiv (n d : Nat) : Nat := (n + (d - 1)) / d

/-! ### Ports and named updates -/

/-- The state of a port. -/
def Ports.get (ps : Ports) : Port → PortState
  | .b => ps.b
  | .g1 => ps.g1
  | .g2 => ps.g2

/-- The ports with one replaced. -/
def Ports.set (ps : Ports) (p : Port) (x : PortState) : Ports :=
  match p with
  | .b => { ps with b := x }
  | .g1 => { ps with g1 := x }
  | .g2 => { ps with g2 := x }

/-- The state of a port. -/
def State.port (s : State) (p : Port) : PortState := s.ports.get p

/-- Replaces a port. -/
def State.setPort (s : State) (p : Port) (x : PortState) : State := { s with ports := s.ports.set p x }

/-- Sets or clears a SEND_PENDING mark. -/
def State.setMark (s : State) (a : Fin 64) (b : Bool) : State := { s with marks := s.marks.set a b }

/-- Replaces the dynamic state of a point. -/
def State.setPoint (s : State) (p : Fin 64) (d : PointDyn) : State := { s with points := s.points.set p d }

/-- Replaces the dynamic state of a zone. -/
def State.setZone (s : State) (z : Fin 16) (d : ZoneDyn) : State := { s with zones := s.zones.set z d }

/-- Replaces the override stack of a zone. -/
def State.setStack (s : State) (z : Fin 16) (l : List Override) : State := { s with overrides := s.overrides.set z l }

/-- Replaces the loop context of an actuator index. -/
def State.setLoop (s : State) (a : Fin 64) (c : LoopCtx) : State := { s with loops := s.loops.set a c }

/-- Replaces the blind state of a zone. -/
def State.setBlind (s : State) (z : Fin 16) (b : BlindState) : State := { s with blinds := s.blinds.set z b }

/-- Sets or clears a step flag. -/
def State.setFlag (s : State) (a : Fin 64) (b : Bool) : State := { s with flags := s.flags.set a b }

/-- Replaces the dynamic state of an actuator. -/
def State.setActuator (s : State) (a : Fin 64) (d : ActDyn) : State := { s with actuators := s.actuators.set a d }

/-- Replaces all the accounts. -/
def State.setAccounts (s : State) (v : Vector Account 128) : State := { s with accounts := v }

/-- Replaces the store. -/
def State.setStore (s : State) (x : Store) : State := { s with store := x }

/-- Replaces the working tables. -/
def State.setTables (s : State) (t : Tables) : State := { s with tables := t }

/-- Replaces the pending set. -/
def State.setNoticed (s : State) (l : List (Fin 324 × Edge)) : State := { s with noticed := l }

/-- Replaces the load context. -/
def State.setLoad (s : State) (l : Option LoadCtx) : State := { s with load := l }

/-- Replaces the clock. -/
def State.setClock (s : State) (c : Clock) : State := { s with clock := c }

/-- Replaces the phase last evaluated. -/
def State.setPhase (s : State) (p : Phase) : State := { s with phase := p }

/-! ### Timers -/

/-- A timer started at a limit in seconds; a limit of 0 leaves it stopped (R40, R45). -/
def startTimer (limitSeconds : Nat) : Option Nat := if limitSeconds = 0 then none else some limitSeconds

/-- A timer after one second of the time base. -/
def tickTimer (t : Option Nat) : Option Nat := t.map (· - 1)

/-! ### Free choices of order -/

/-- The list in the order that a number spells: every order is spelled by some number, and every number spells
one. -/
def shuffle {α : Type} (code : Nat) : (l : List α) → (fuel : Nat) → List α
  | _, 0 => []
  | [], _ => []
  | x :: xs, fuel + 1 =>
    (x :: xs).getD (code % (xs.length + 1)) x ::
      shuffle (code / (xs.length + 1)) ((x :: xs).eraseIdx (code % (xs.length + 1))) fuel

/-- Takes each item in turn in a free order. A list of fewer than two items has one order and reads no choice. -/
def inFreeOrder {α : Type} (f : State → α → State) (l : List α) (s : State) : State :=
  match l with
  | [] => s
  | [x] => f s x
  | x :: y :: rest =>
    (shuffle (Config.freeChoice s.free) (x :: y :: rest) (rest.length + 2)).foldl f { s with free := s.free + 1 }

end Sys2Proof.Machine
end

