-- ==== Sys2Proof/Machine/Flags.lean ====
section
/-! DEFINITION. Conditions and edges: the 324 notice sources (11.6), the pending set (R177), NOTICE frames (R178), and
offers of relayed, reply and notice frames (R10). -/

namespace Sys2Proof.Machine

/-! ### Queues -/

/-- Queue capacities (01 section 1.3). -/
def capacity : Port → Nat
  | .b => 32
  | .g1 => 24
  | .g2 => 24

/-- R10: a frame of the classes RELAYED, REPLY and NOTICE joins a queue with room and is dropped at a full one. -/
def State.offer (s : State) (p : Port) (e : QEntry) : State :=
  if (s.port p).queue.length < capacity p then s.setPort p { s.port p with queue := (s.port p).queue ++ [e] } else s

/-! ### Sources -/

/-- RH condition of a zone (R70). -/
def sourceRh (z : Fin 16) : Fin 324 := ⟨z.val, by omega⟩

/-- TEMP condition of a zone (R70). -/
def sourceTemp (z : Fin 16) : Fin 324 := ⟨16 + z.val, by omega⟩

/-- RATE_HOLD of a zone (R73). -/
def sourceRateHold (z : Fin 16) : Fin 324 := ⟨32 + z.val, by omega⟩

/-- OVERRIDE_EXPIRED of a zone (R164). -/
def sourceExpired (z : Fin 16) : Fin 324 := ⟨48 + z.val, by omega⟩

/-- EXHAUSTED of an object (R99). -/
def sourceObject (i : Fin 128) : Fin 324 := ⟨64 + i.val, by omega⟩

/-- Degraded point (R47). -/
def sourcePoint (p : Fin 64) : Fin 324 := ⟨192 + p.val, by omega⟩

/-- FAULT of an actuator (R115). -/
def sourceActuator (a : Fin 64) : Fin 324 := ⟨256 + a.val, by omega⟩

/-- R47: a point is degraded. -/
def PointDyn.degraded : PointDyn → Bool
  | .unused => false
  | .meas d => d.state == .stale || d.state == .suspect
  | .pres d => d.state == .stuck || d.state == .stale

/-- R186: STORE_FAULT. -/
def Store.fault (st : Store) : Bool := st.imageFault || st.ckptFault

/-- R100: some object holds DOSE_LOST. -/
def anyDoseLost (v : Vector Account 128) : Bool := (List.finRange 128).any (fun i => v[i].doseLost)

/-- The condition of a source (11.6); an event source holds none. -/
def condition (s : State) (src : Fin 324) : Bool :=
  if h : src.val < 16 then s.zones[src.val].rh.state == .excursion
  else if h : src.val < 32 then s.zones[src.val - 16].temp.state == .excursion
  else if h : src.val < 48 then s.zones[src.val - 32].rateHold
  else if src.val < 64 then false
  else if h : src.val < 192 then (s.accounts[src.val - 64]'(by omega)).state == .exhausted
  else if h : src.val < 256 then (s.points[src.val - 192]'(by omega)).degraded
  else if h : src.val < 320 then (s.actuators[src.val - 256]'(by omega)).state == .fault
  else if src.val = 320 then s.store.fault
  else if src.val = 321 then s.clock.unset
  else if src.val = 322 then anyDoseLost s.accounts
  else false

/-! ### Edges -/

/-- Edge codes (13.1). -/
def Edge.code : Edge → Nat
  | .enter => 1
  | .exit => 2

/-- The edge that a condition gives, if it changed. -/
def edgeOf (was now : Bool) : Option Edge :=
  match was, now with
  | false, true => some .enter
  | true, false => some .exit
  | false, false => none
  | true, true => none

/-- The edge of a source whose condition may have changed, as a list. -/
def edgesOf (src : Fin 324) (was now : Bool) : List (Fin 324 × Edge) :=
  match edgeOf was now with
  | some e => [(src, e)]
  | none => []

/-- Whether an edge is enabled (R176). -/
def NoticeEntry.enables (n : NoticeEntry) : Edge → Bool
  | .enter => n.enter
  | .exit => n.exit

/-- The pending set with a pair added, in ascending source number. -/
def insertNotice (x : Fin 324 × Edge) : List (Fin 324 × Edge) → List (Fin 324 × Edge)
  | [] => [x]
  | y :: rest => if x.1 < y.1 then x :: y :: rest else y :: insertNotice x rest

/-- Whether a source is in the pending set. -/
def isPending (s : State) (src : Fin 324) : Bool := s.noticed.any (·.1 == src)

/-- The NOTICE frame for a pair (R178). -/
def noticeFrame (s : State) (src : Fin 324) (e : Edge) : List Byte :=
  buildFrame .notice s.tables.device.ownNode 0 (num16 src.val ++ num8 e.code)

/-- R177: an enabled edge of a source that is not pending joins the pending set and offers one NOTICE frame. -/
def State.edge (s : State) (src : Fin 324) (e : Edge) : State :=
  if s.tables.notices[src].enables e && !isPending s src then
    (s.setNoticed (insertNotice (src, e) s.noticed)).offer .b (.notice (noticeFrame s src e))
  else s

/-- The edges of one event. Edges of different sources carry no order between them (R177); those of one source keep
theirs. -/
def State.edges (s : State) (es : List (Fin 324 × Edge)) : State :=
  inFreeOrder (fun s src => (es.filter (·.1 == src)).foldl (fun s e => s.edge e.1 e.2) s) (es.map (·.1)).eraseDups s

/-- Edges that may belong to a reset: they are delivered at its completion (R180, R186). -/
def State.edgesOrDefer (s : State) (es : List (Fin 324 × Edge)) : State :=
  if s.resetting.isSome then { s with deferred := s.deferred ++ es } else s.edges es

end Sys2Proof.Machine
end

