-- ==== Sys2Proof/Machine/Levels.lean ====
section
/-! DEFINITION. Effective levels (R131, R137, R140 to R143), the send test (R111), governor command offers (R11, R112,
R142) and the service of SEND_PENDING marks (R12, R147). -/

namespace Sys2Proof.Machine

/-! ### What a stack decides (R154) -/

/-- A light kind: INSPECTION, EVENT, DARK. -/
def OverrideBody.isLight : OverrideBody → Bool
  | .inspection _ _ => true
  | .event _ _ => true
  | .dark _ => true
  | .climateHold => false

/-- The topmost light-kind entry; the stack is given bottom first. -/
def topLight (stack : List Override) : Option Override := stack.reverse.find? (·.body.isLight)

/-- A phase as the light mode it gives (R154). -/
def Phase.mode : Phase → LightMode
  | .open => .open
  | .closed => .closed

/-- The light mode from a stack and a phase (R154). -/
def modeOf (stack : List Override) (phase : Phase) : LightMode :=
  match (topLight stack).map Override.body with
  | some (.dark _) => .dark
  | some (.inspection _ _) => .inspect
  | some (.event _ _) => .open
  | some .climateHold => phase.mode
  | none => phase.mode

/-- The level in force (R154). -/
def levelOf (stack : List Override) : Option Nat :=
  match (topLight stack).map Override.body with
  | some (.inspection level _) => some level
  | some (.event level _) => some level
  | some (.dark _) => none
  | some .climateHold => none
  | none => none

/-- The climate hold (R154). -/
def holdOf (stack : List Override) : Bool := stack.any (·.body == .climateHold)

/-- The light mode of a zone as the override unit holds it. -/
def lightMode (s : State) (z : Fin 16) : LightMode := modeOf s.overrides[z] s.heldPhase

/-- DARK or CLOSED. -/
def LightMode.isDark : LightMode → Bool
  | .open => false
  | .closed => true
  | .inspect => false
  | .dark => true

/-! ### Actuator kinds -/

/-- The kind's range (07 section 7.1). -/
def ActKind.low : ActKind → Int
  | .spot _ _ _ _ _ => 0
  | .blind _ _ => 0
  | .rhSp _ => 0
  | .tempSp _ => -2000

/-- The kind's range (07 section 7.1). -/
def ActKind.high : ActKind → Int
  | .spot _ _ _ _ _ => 1000
  | .blind _ _ => 1000
  | .rhSp _ => 10000
  | .tempSp _ => 6000

/-- A value of an actuator kind at the start of a payload: signed for TEMP_SP (R108, R114). -/
def ActKind.value (k : ActKind) (payload : List Byte) : Int :=
  match k with
  | .tempSp _ => int16At payload 0
  | .spot _ _ _ _ _ => (nat16At payload 0 : Int)
  | .blind _ _ => (nat16At payload 0 : Int)
  | .rhSp _ => (nat16At payload 0 : Int)

/-- SPOT or BLIND. -/
def ActKind.isLight : ActKind → Bool
  | .spot _ _ _ _ _ => true
  | .blind _ _ => true
  | .rhSp _ => false
  | .tempSp _ => false

/-- SPOT. -/
def ActKind.isSpot : ActKind → Bool
  | .spot _ _ _ _ _ => true
  | .blind _ _ => false
  | .rhSp _ => false
  | .tempSp _ => false

/-- The identity of an actuator: Kind, Node and Channel (R106). -/
def ActRec.identity (r : ActRec) : Nat × Word × Byte := (r.kind.code, r.node, r.channel)

/-! ### Spotlights and blinds -/

/-- The cap a loop places on its spotlight, in ‰ (08 section 8.1). -/
def capOf (u : Nat) : Nat := u / 256

/-- The standby level of a zone; 0, its cleared encoding, when the zone is not in use (R131). -/
def standbyOf (s : State) (z : Fin 16) : Nat := (s.tables.zones[z].map (·.standby)).getD 0

/-- The blind maximum of a zone; 0 when it is not in use. -/
def blindMaxOf (s : State) (z : Fin 16) : Nat := (s.tables.zones[z].map (·.blindMax)).getD 0

/-- R131: the effective level of SPOT actuator `a` of zone `z` whose object is `o`. -/
def spotLevel (s : State) (a : Fin 64) (z : Fin 16) (o : Fin 128) : Int :=
  let base := min (s.actuators[a].requested.getD 0) (capOf s.loops[a].u : Int)
  let dark := if (lightMode s z).isDark then min base 0 else base
  let spent := if s.accounts[o].state = .pacing then dark else min dark 0
  if lightMode s z = .open ∧ s.zones[z].present = false then min spent (standbyOf s z : Int) else spent

/-- R137: the effective level of BLIND actuator `a` of zone `z`. -/
def blindLevel (s : State) (a : Fin 64) (z : Fin 16) (maxLevel : Nat) : Int :=
  if (lightMode s z).isDark then 0 else
  min (min (s.actuators[a].requested.getD (blindMaxOf s z)) (s.blinds[z].cap : Int)) (maxLevel : Int)

/-! ### Setpoints -/

/-- The inner band of a setpoint actuator's zone, or the kind's range when the zone is not in use (R140, R143). -/
def bandOf (s : State) (r : ActRec) : Int × Int :=
  match s.tables.zones[r.zone], r.kind with
  | some zr, .rhSp _ => (zr.rh.innerLow, zr.rh.innerHigh)
  | some zr, .tempSp _ => (zr.temp.innerLow, zr.temp.innerHigh)
  | _, k => (k.low, k.high)

/-- R140: the target of a setpoint actuator; requested is within the kind's range already when the zone is not in
use. -/
def targetOf (s : State) (a : Fin 64) (r : ActRec) : Option Int :=
  match s.tables.zones[r.zone] with
  | none => s.actuators[a].requested
  | some _ => s.actuators[a].requested.map (limit (bandOf s r).1 (bandOf s r).2)

/-- R141, first: RATE_HOLD holds an RH_SP actuator. -/
def rateHeld (s : State) (r : ActRec) : Bool :=
  match r.kind with
  | .rhSp _ => s.zones[r.zone].rateHold
  | .tempSp _ => false
  | .spot _ _ _ _ _ => false
  | .blind _ _ => false

/-- R141: a setpoint actuator is held. -/
def isHeld (s : State) (r : ActRec) : Bool := rateHeld s r || holdOf s.overrides[r.zone]

/-- The slew of a setpoint actuator. -/
def ActKind.slew : ActKind → Nat
  | .rhSp n => n
  | .tempSp n => n
  | .spot _ _ _ _ _ => 0
  | .blind _ _ => 0

/-- Case 5 of R143 before its limit: `sent` moved toward `target` by at most the slew. -/
def moveToward (sent target : Int) (slew : Nat) : Int :=
  if distance target sent ≤ slew then target else if sent < target then sent + slew else sent - slew

/-- R143: the setpoint value V. -/
def setpointValue (s : State) (a : Fin 64) (r : ActRec) : Option Int :=
  match targetOf s a r with
  | none => none
  | some target =>
    match s.actuators[a].sent with
    | none => some target
    | some sent =>
      if isHeld s r || s.flags[a] then some (limit (bandOf s r).1 (bandOf s r).2 sent)
      else some (limit (bandOf s r).1 (bandOf s r).2 (moveToward sent target r.kind.slew))

/-- The effective level of an actuator in use: R131, R137, or V of R143. -/
def effectiveLevel (s : State) (a : Fin 64) (r : ActRec) : Option Int :=
  match r.kind with
  | .spot o _ _ _ _ => some (spotLevel s a r.zone o)
  | .blind maxLevel _ => some (blindLevel s a r.zone maxLevel)
  | .rhSp _ => setpointValue s a r
  | .tempSp _ => setpointValue s a r

/-! ### Governor command offers (R11) -/

/-- A GOVERNOR entry for an actuator. -/
def QEntry.isGovernor (a : Fin 64) : QEntry → Bool
  | .governor b _ _ _ => b == a
  | .relayed _ => false
  | .reply _ => false
  | .notice _ => false

/-- A RELAYED entry. -/
def QEntry.isRelayed : QEntry → Bool
  | .relayed _ => true
  | .governor _ _ _ _ => false
  | .reply _ => false
  | .notice _ => false

/-- Replaces the payload of a GOVERNOR entry for an actuator; node and channel stay (R107). -/
def QEntry.withLevel (a : Fin 64) (v : Int) : QEntry → QEntry
  | .governor b node channel level => if b = a then .governor b node channel v else .governor b node channel level
  | .relayed f => .relayed f
  | .reply f => .reply f
  | .notice f => .notice f

/-- The entry in transmission, as a list of at most one (R6). -/
def PortState.sending (q : PortState) : List QEntry := if q.tx.isSome then q.queue.take 1 else []

/-- The waiting entries (R6). -/
def PortState.waiting (q : PortState) : List QEntry := if q.tx.isSome then q.queue.drop 1 else q.queue

/-- R112 and R142: a command with level `v` for `a` counts as queued. Sent becomes `v`, and the step flag of a
setpoint actuator becomes TAKEN when `v` is not what sent held. -/
def State.countQueued (s : State) (a : Fin 64) (r : ActRec) (v : Int) : State :=
  let s1 := if !r.kind.isLight && s.actuators[a].sent != some v then s.setFlag a true else s
  s1.setActuator a { s1.actuators[a] with sent := some v }

/-- R11: a governor command for `a` with level `v` is offered to the queue of the port that its record names. -/
def State.offerGovernor (s : State) (a : Fin 64) (r : ActRec) (v : Int) : State :=
  let p := r.port.line
  let q := s.port p
  if q.waiting.any (·.isGovernor a) then
    (s.setPort p { q with queue := q.sending ++ q.waiting.map (·.withLevel a v) }).countQueued a r v
  else if q.sending.any (·.isGovernor a) then s.setMark a true
  else if q.queue.length < capacity p then
    ((s.setPort p { q with queue := q.queue ++ [.governor a r.node r.channel v] }).setMark a false).countQueued a r v
  else if q.waiting.any (·.isRelayed) then
    ((s.setPort p { q with
      queue := q.sending ++ q.waiting.eraseP (·.isRelayed) ++ [.governor a r.node r.channel v] }).setMark a false).countQueued a r v
  else s.setMark a true

/-! ### Issue decisions (R110, R111) -/

/-- The deadband of a SPOT or BLIND actuator. -/
def ActKind.deadband : ActKind → Nat
  | .spot _ _ _ _ d => d
  | .blind _ d => d
  | .rhSp _ => 0
  | .tempSp _ => 0

/-- R111: whether a re-evaluation with effective level `e` makes an offer. -/
def sendTest (sent : Option Int) (e : Int) (deadband : Nat) (mode : LightMode) : Bool :=
  match sent with
  | some v => decide (deadband ≤ distance e v) || (e == 0 && v != 0)
  | none => e == 0 && mode.isDark

/-- R110: re-evaluates a SPOT or BLIND actuator in use; any other index stays. -/
def State.reevaluate (s : State) (a : Fin 64) : State :=
  match s.tables.actuators[a] with
  | none => s
  | some r =>
    if r.kind.isLight then
      match effectiveLevel s a r with
      | none => s
      | some e =>
        if sendTest s.actuators[a].sent e r.kind.deadband (lightMode s r.zone) then s.offerGovernor a r e else s
    else s

/-- R110: several actuators, in the order given. -/
def State.reevaluateAll (s : State) (l : List (Fin 64)) : State := l.foldl State.reevaluate s

/-- The actuators in use that satisfy a test of their record, ascending. -/
def actuatorsWhere (s : State) (f : ActRec → Bool) : List (Fin 64) :=
  (List.finRange 64).filter (fun a => match s.tables.actuators[a] with
    | some r => f r
    | none => false)

/-- The SPOT and BLIND actuators of a zone (R110). -/
def lightsOf (s : State) (z : Fin 16) : List (Fin 64) := actuatorsWhere s (fun r => r.kind.isLight && r.zone == z)

/-- The BLIND actuators of a zone (R110). -/
def blindsOf (s : State) (z : Fin 16) : List (Fin 64) :=
  actuatorsWhere s (fun r => r.kind.isLight && !r.kind.isSpot && r.zone == z)

/-! ### SEND_PENDING (R12, R147) -/

/-- Serves one mark: it is cleared and the effective level of the moment is offered, or nothing when V is none. -/
def State.serveMark (s : State) (a : Fin 64) : State :=
  match s.tables.actuators[a] with
  | none => s.setMark a false
  | some r =>
    match effectiveLevel s a r with
    | none => s.setMark a false
    | some v => (s.setMark a false).offerGovernor a r v

/-- Marks of actuators no longer in use are cleared without a command (R12). -/
def State.dropDeadMarks (s : State) : State :=
  { s with marks := Vector.ofFn (fun a => s.marks[a] && s.tables.actuators[a].isSome) }

/-- The lowest marked actuator in use whose record names the port (R12). -/
def markToServe (s : State) (g : Gallery) : Option (Fin 64) :=
  (actuatorsWhere s (fun r => r.port == g)).find? (fun a => s.marks[a])

/-- R12: one service of the marks of a gallery port. -/
def State.serviceMarks (s : State) (g : Gallery) : State :=
  match markToServe s.dropDeadMarks g with
  | none => s.dropDeadMarks
  | some a => s.dropDeadMarks.serveMark a

/-- R12: the service that an end of transmission on a gallery port has left owed; without one nothing is served. -/
def State.takeService (s : State) (g : Gallery) : State :=
  if s.owed = some g then ({ s with owed := none } : State).serviceMarks g else s

/-- A service still owed is taken before anything else happens. -/
def State.settled (s : State) : State :=
  match s.owed with
  | none => s
  | some g => s.takeService g

end Sys2Proof.Machine
end

