-- ==== Sys2Proof/Machine/LightGovernor.lean ====
section
/-! DEFINITION. The light governor (08): loop steps, freezing, forced zero, blind stepping. -/

namespace Sys2Proof.Machine

/-! ### Points as other units read them -/

/-- The reported value of a `y` or held value (R39). -/
def reported (y : Int) : Int := roundHalfAway y 256

/-- Whether a point is in use and of a measurement kind. -/
def isMeasOf (s : State) (p : Fin 64) (k : MeasKind) : Bool :=
  match s.tables.points[p] with
  | some (.meas r) => r.kind == k
  | some (.pres _) => false
  | none => false

/-- The reported value of a point of kind `k` that is in use and VALID. -/
def validReading (s : State) (p : Fin 64) (k : MeasKind) : Option Int :=
  if isMeasOf s p k then
    match s.points[p] with
    | .meas d => if d.state = .valid then d.y.map reported else none
    | .pres _ => none
    | .unused => none
  else none

/-! ### Loops -/

/-- The object a loop follows, when its index holds a SPOT actuator in use (R122). -/
def loopObject (s : State) (a : Fin 64) : Option (Fin 128) :=
  match s.tables.actuators[a] with
  | some ⟨.spot o _ _ _ _, _, _, _, _, _⟩ => some o
  | some ⟨.blind _ _, _, _, _, _, _⟩ => none
  | some ⟨.rhSp _, _, _, _, _, _⟩ => none
  | some ⟨.tempSp _, _, _, _, _, _⟩ => none
  | none => none

/-- The light point that an object record holds; a record not in use holds it at its cleared encoding, 0 (R83, R191). -/
def lightPointOf : Option ObjectRec → Fin 64
  | some r => r.lightPoint
  | none => 0

/-- The light point of a loop: that of its object's record as it stands, in use or not (R122). -/
def loopPoint (s : State) (a : Fin 64) : Option (Fin 64) := (loopObject s a).map (fun o => lightPointOf s.tables.objects[o])

/-- A change of a loop's context, with the change of its cap delivered (R125). -/
def State.moveLoop (s : State) (a : Fin 64) (c : LoopCtx) : State :=
  if capOf c.u = capOf s.loops[a].u then s.setLoop a c else (s.setLoop a c).reevaluate a

/-- R124: the loop step, with the gains, the max level, the permitted illuminance and the measured value. -/
def loopStep (kp ki maxLevel lPerm : Nat) (measured : Int) (c : LoopCtx) : LoopCtx :=
  let e := limit (-32767) 32767 ((lPerm : Int) - measured)
  let raw := (kp : Int) * (e - c.ePrev.getD e) + (ki : Int) * e
  { u := (limit 0 ((maxLevel * 256 : Nat) : Int) ((c.u : Int) + roundHalfAway raw 256)).toNat, ePrev := some e, running := true }

/-- R123 for one loop that follows the point: when its object is in use it runs, and steps when the object is PACING and its
zone's light mode is OPEN or INSPECT. -/
def State.loopSample (s : State) (measured : Int) (a : Fin 64) : State :=
  match s.tables.actuators[a] with
  | some ⟨.spot o kp ki maxLevel _, _, _, _, zone, _⟩ =>
    if s.tables.objects[o].isNone then s
    else if s.accounts[o].state = .pacing ∧ (lightMode s zone).isDark = false then
      s.moveLoop a (loopStep kp ki maxLevel s.accounts[o].lPerm measured s.loops[a])
    else s.setLoop a { s.loops[a] with running := true }
  | some ⟨.blind _ _, _, _, _, _, _⟩ => s
  | some ⟨.rhSp _, _, _, _, _, _⟩ => s
  | some ⟨.tempSp _, _, _, _, _, _⟩ => s
  | none => s

/-- The loops whose light point is `p`, ascending. -/
def loopsAt (s : State) (p : Fin 64) : List (Fin 64) := (List.finRange 64).filter (fun a => loopPoint s a == some p)

/-- R123: a valid sample at a point. -/
def State.lightSample (s : State) (p : Fin 64) (measured : Int) : State :=
  if isMeasOf s p .illum then (loopsAt s p).foldl (fun s a => s.loopSample measured a) s else s

/-- R126: a departure from VALID at a point freezes the loops that follow it. -/
def State.lightDeparture (s : State) (p : Fin 64) : State :=
  (loopsAt s p).foldl (fun s a => s.setLoop a { s.loops[a] with ePrev := none, running := false }) s

/-- R127: U becomes 0 and e_prev absent for the loops given; the changes of cap are delivered in ascending index
(R125). -/
def State.forceZero (s : State) (l : List (Fin 64)) : State :=
  let moved := l.filter (fun a => capOf s.loops[a].u != 0)
  (l.foldl (fun s a => s.setLoop a { s.loops[a] with u := 0, ePrev := none }) s).reevaluateAll moved

/-- R127, R128: a change of the light mode of a zone at the light governor. -/
def State.lightModeAtLoops (s : State) (z : Fin 16) : State :=
  if (lightMode s z).isDark then s.forceZero (actuatorsWhere s (fun r => r.kind.isSpot && r.zone == z)) else s

/-- R127, R128: changes of state of objects at the light governor; `out` says which are now EXHAUSTED or UNUSED. -/
def State.objectsAtLoops (s : State) (out : Fin 128 → Bool) : State :=
  s.forceZero ((List.finRange 64).filter (fun a => match loopObject s a with
    | some o => out o
    | none => false))

/-! ### Blinds -/

/-- The objects in use of a zone. -/
def objectsOf (s : State) (z : Fin 16) : List (Fin 128) :=
  (List.finRange 128).filter (fun i => match s.tables.objects[i] with
    | some r => r.zone == z
    | none => false)

/-- The measured illuminance of an object (R133). -/
def measuredAt (s : State) (i : Fin 128) : Option Int :=
  match s.tables.objects[i] with
  | some r => validReading s r.lightPoint .illum
  | none => none

/-- The U of the object's spot loop, when its Spot actuator is a SPOT actuator in use (R122). -/
def spotLoopU (s : State) (r : ObjectRec) : Option Nat :=
  match r.spot with
  | none => none
  | some a => if (loopObject s a).isSome then some s.loops[a].u else none

/-- Whether an object gives excess (R133). -/
def givesExcess (s : State) (i : Fin 128) : Bool :=
  s.accounts[i].uvHigh ||
    (match s.tables.objects[i], measuredAt s i with
      | some r, some e =>
        decide (((s.accounts[i].lPerm + r.tolerance : Nat) : Int) < e) &&
          (match spotLoopU s r with
            | none => true
            | some u => u == 0)
      | _, _ => false)

/-- Whether an object stands at or below its quiet threshold (R134). -/
def isQuiet (s : State) (margin : Nat) (i : Fin 128) : Bool :=
  match measuredAt s i with
  | some e => decide (e ≤ ((s.accounts[i].lPerm - margin : Nat) : Int))
  | none => false

/-- R132: the blind state of a zone in use after a minute boundary. -/
def nextBlind (s : State) (z : Fin 16) (r : ZoneRec) : BlindState :=
  let b := s.blinds[z]
  if (lightMode s z).isDark then ⟨0, 0⟩
  else if (objectsOf s z).any (givesExcess s) then ⟨b.cap - r.blindStep, 0⟩
  else if (objectsOf s z).all (isQuiet s r.reopenMargin) then
    if r.reopenHold ≤ b.reopen + 1 then ⟨min (b.cap + r.blindStep) r.blindMax, 0⟩ else ⟨b.cap, b.reopen + 1⟩
  else ⟨b.cap, 0⟩

/-- A change of a zone's blind state, with a change of its cap delivered (R132, R135, R136). -/
def State.moveBlind (s : State) (z : Fin 16) (b : BlindState) : State :=
  if b.cap = s.blinds[z].cap then s.setBlind z b else (s.setBlind z b).reevaluateAll (blindsOf s z)

/-- R132 for one zone. -/
def State.stepBlind (s : State) (z : Fin 16) : State :=
  match s.tables.zones[z] with
  | none => s
  | some r => s.moveBlind z (nextBlind s z r)

/-- R132: the light governor's act on a minute boundary. No order among the zones is given. -/
def State.lightMinute (s : State) : State := inFreeOrder State.stepBlind (List.finRange 16) s

end Sys2Proof.Machine
end

