-- ==== Sys2Proof/Machine/Exposure.lean ====
section
/-! DEFINITION. The exposure unit (06): accrual, day boundary, permitted illuminance, restore, and the changes it hands
on (R98 to R100). -/

namespace Sys2Proof.Machine

/-- B_m, the budget in lux-minutes. -/
def ObjectRec.budgetMinutes (r : ObjectRec) : Nat := r.budget * 60000

/-- The period dose U0 + u, a saturating sum. -/
def Account.dose (x : Account) : Nat := saturate (x.before + x.today)

/-- R0: what is left of the budget (R88 step 3). -/
def ObjectRec.left (r : ObjectRec) (before : Nat) : Nat := r.budgetMinutes - before

/-- A (R88 step 4). -/
def ObjectRec.allowanceOf (r : ObjectRec) (before days : Nat) : Nat := r.left before / (r.period - days)

/-! ### Minutes (R58, R96) -/

/-- The week entry of today (R57). -/
def todayEntry (s : State) : WeekEntry := s.tables.week.toList.getD s.clock.dow ⟨0, 0⟩

/-- The minutes remaining (R58). -/
def minutesRemaining (s : State) : Nat :=
  if s.clock.unset then s.tables.device.window
  else match s.phase with
    | .open => (todayEntry s).closeMinute - s.clock.minute
    | .closed => 0

/-- The EVENT entry that makes a zone's mode OPEN, with its level (R96). -/
def eventInForce (stack : List Override) : Option (Nat × Option Nat) :=
  match topLight stack with
  | some ⟨.event level _, _, expiry⟩ => some (level, expiry)
  | some ⟨.inspection _ _, _, _⟩ => none
  | some ⟨.dark _, _, _⟩ => none
  | some ⟨.climateHold, _, _⟩ => none
  | none => none

/-- M (R96); `none` in its last row. -/
def spreadMinutes (s : State) (z : Fin 16) : Option Nat :=
  match s.phase, eventInForce s.overrides[z] with
  | .open, _ => some (minutesRemaining s)
  | .closed, some (_, some expiry) => some expiry
  | .closed, some (_, none) => some 60
  | .closed, none => none

/-- R95 step 7: the zone's TEMP machine is EXCURSION with the side HIGH. -/
def runsHot (s : State) (z : Fin 16) : Bool := s.zones[z].temp.state == .excursion && s.zones[z].temp.side == some .high

/-- The excursion light factor of a zone; 0, its cleared encoding, when it is not in use. -/
def factorOf (s : State) (z : Fin 16) : Nat := (s.tables.zones[z].map (·.factor)).getD 0

/-- R95, with M given: steps 1 and 3 to 7. -/
def openLux (s : State) (r : ObjectRec) (x : Account) (m : Nat) : Nat :=
  let pace := (x.allowance - x.today) / m
  let floored := max (min r.ceiling pace) r.floorLux
  let event := match eventInForce s.overrides[r.zone] with
    | some (level, _) => min floored level
    | none => floored
  if runsHot s r.zone then event * factorOf s r.zone / 100 else event

/-- R94: L_perm of an object in use with record `r` and account `x`. -/
def permitted (s : State) (r : ObjectRec) (x : Account) : Nat :=
  match x.state with
  | .unused => 0
  | .exhausted => 0
  | .pacing =>
    match lightMode s r.zone with
    | .dark => 0
    | .closed => 0
    | .inspect => (levelOf s.overrides[r.zone]).getD 0
    | .open =>
      match spreadMinutes s r.zone with
      | some m => openLux s r x m
      | none => 0

/-- The account with L_perm evaluated. -/
def Account.evaluated (x : Account) (s : State) (r : ObjectRec) : Account := { x with lPerm := permitted s r x }

/-! ### What is handed on (R98 to R100) -/

/-- Edges of the EXHAUSTED sources and of DOSE_ESTIMATE between two sets of accounts (R99, R100). -/
def accountEdges (old new : Vector Account 128) : List (Fin 324 × Edge) :=
  (List.finRange 128).flatMap (fun i =>
    edgesOf (sourceObject i) (old[i].state == .exhausted) (new[i].state == .exhausted)) ++
    edgesOf sourceDoseEstimate (anyDoseLost old) (anyDoseLost new)

/-- New accounts take effect: changes of state go to the light governor (R98), edges to the notice set (R99, R100). -/
def State.commitAccounts (s : State) (new : Vector Account 128) : State :=
  ((s.setAccounts new).objectsAtLoops
    (fun o => new[o].state != s.accounts[o].state && new[o].state != .pacing)).edges (accountEdges s.accounts new)

/-- The accounts with those of the objects in use replaced. -/
def mapAccounts (s : State) (f : ObjectRec → Account → Account) : Vector Account 128 :=
  Vector.ofFn (fun i => match s.tables.objects[i] with
    | some r => f r s.accounts[i]
    | none => s.accounts[i])

/-! ### Minute boundary (R84 to R87) -/

/-- R85: the illuminance of the minute, and whether ESTIMATED is set. -/
def minuteLux (s : State) (r : ObjectRec) : Nat × Bool :=
  if isMeasOf s r.lightPoint .illum then
    match s.points[r.lightPoint] with
    | .meas ⟨.valid, some y, _, _, _, _, _⟩ => ((reported y).toNat, false)
    | .meas ⟨.warming, _, some h, _, _, _, _⟩ => ((reported h).toNat, true)
    | .meas ⟨.stale, _, some h, _, _, _, _⟩ => ((reported h).toNat, true)
    | _ => (r.ceiling, true)
  else (r.ceiling, true)

/-- R86: the exhaustion test. -/
def Account.tested (x : Account) (r : ObjectRec) : Account :=
  if r.budgetMinutes ≤ x.dose then { x with state := .exhausted } else { x with state := .pacing }

/-- R87: UV_HIGH after a judgement. -/
def judgedUv (s : State) (r : ObjectRec) (was : Bool) : Bool :=
  match r.uv with
  | none => false
  | some u =>
    match validReading s u.point .uv with
    | some v => decide ((u.ceiling : Int) < v)
    | none => was

/-- R84: one object at a minute boundary. -/
def accrued (s : State) (r : ObjectRec) (x : Account) : Account :=
  let x1 := { x with today := saturate (x.today + (minuteLux s r).1), estimated := x.estimated || (minuteLux s r).2 }
  let x2 := x1.tested r
  { x2 with uvHigh := judgedUv s r x.uvHigh }.evaluated s r

/-- R84: the exposure unit's act on a minute boundary. -/
def State.exposureMinute (s : State) : State := s.commitAccounts (mapAccounts s (accrued s))

/-! ### Day boundary (R88) -/

/-- Steps 3 and 4 of R88. -/
def Account.withAllowance (x : Account) (r : ObjectRec) : Account := { x with allowance := r.allowanceOf x.before x.days }

/-- Steps 1 and 2 of R88 with day difference `n`. -/
def Account.rolled (x : Account) (r : ObjectRec) (n : Nat) : Account :=
  let sum := saturate (x.before + x.today)
  if r.period ≤ x.days + n then
    { x with before := 0, today := 0, estimated := false, days := 0, lastPeriod := sum, state := .pacing, doseLost := false }
  else { x with before := sum, today := 0, estimated := false, days := x.days + n }

/-- R88: one object at a day boundary. -/
def dayRolled (s : State) (n : Nat) (r : ObjectRec) (x : Account) : Account :=
  let x1 := (x.rolled r n).withAllowance r
  let x2 := if r.left x1.before = 0 then { x1 with state := .exhausted } else x1
  x2.evaluated s r

/-- R88: the exposure unit's act on a day boundary. -/
def State.exposureDay (s : State) (n : Nat) : State := s.commitAccounts (mapAccounts s (dayRolled s n))

/-! ### Writes and requests (R81, R91, R92) -/

/-- R81: an account started afresh. -/
def freshAccount (s : State) (r : ObjectRec) : Account :=
  ({ Account.unused with allowance := r.allowanceOf 0 0, state := .pacing } : Account).evaluated s r

/-- R82: the account under a record rewritten with the same id. -/
def Account.kept (x : Account) (r : ObjectRec) : Account := { x with days := min x.days (r.period - 1) }

/-- R91: OBJECT_PERIOD_START. -/
def periodStarted (s : State) (r : ObjectRec) (x : Account) : Account :=
  { x with before := 0, today := 0, days := 0, allowance := r.allowanceOf 0 0, state := .pacing, estimated := false,
           doseLost := false }.evaluated s r

/-- R92: DOSE_SET. -/
def doseSetTo (s : State) (r : ObjectRec) (dose : Nat) (x : Account) : Account :=
  let x1 := { x with before := dose, today := 0, estimated := false }.withAllowance r
  let x2 := { x1 with state := if r.left dose = 0 then ObjState.exhausted else .pacing }
  x2.evaluated s r

/-- One account replaced, with the changes handed on. -/
def State.commitAccount (s : State) (i : Fin 128) (x : Account) : State := s.commitAccounts (s.accounts.set i x)

/-- R94, R155: L_perm of every object of a zone is evaluated. -/
def State.evaluateZone (s : State) (z : Fin 16) : State :=
  s.setAccounts (mapAccounts s (fun r x => if r.zone = z then x.evaluated s r else x))

/-! ### Restore (R102 to R104) -/

/-- R102: an account restored from the dose-loss allowance, before L_perm is evaluated. -/
def fromAllowance (allowance : Nat) (r : ObjectRec) : Account :=
  let before := r.budgetMinutes * allowance / 100
  { Account.unused with
    before
    allowance := r.allowanceOf before 0
    doseLost := true
    state := if r.left before = 0 then .exhausted else .pacing }

/-- R102: an account restored from a good record of the same id, before L_perm is evaluated. -/
def fromRecord (r : ObjectRec) (c : CkptData) : Account :=
  let days := min c.days (r.period - 1)
  { before := c.before
    today := c.today
    days
    allowance := c.allowance
    lastPeriod := c.lastPeriod
    lPerm := 0
    state := if r.budgetMinutes ≤ saturate (c.before + c.today) then .exhausted else .pacing
    estimated := c.estimated
    doseLost := c.doseLost
    uvHigh := false }

/-- R102, R103: the account of a reloaded object from the record that the store gives. -/
def restored (allowance : Nat) (r : ObjectRec) (rec : Option CkptData) : Account :=
  match rec with
  | some c => if c.id = r.id then fromRecord r c else fromAllowance allowance r
  | none => fromAllowance allowance r

/-- R104: the account of a reloaded object at a soft reset, from the id and account in work before it. -/
def keptSoft (allowance : Nat) (r : ObjectRec) (oldId : Quad) (x : Account) : Account :=
  if oldId = r.id then x.kept r else fromAllowance allowance r

end Sys2Proof.Machine
end

