-- ==== Sys2Proof/Machine/OverrideUnit.lean ====
section
/-! DEFINITION. The override unit (10): deliveries of a change, removal and splice, expiry, phase changes. -/

namespace Sys2Proof.Machine

/-! ### Deliveries (R155, R162) -/

/-- What a change of a zone's light mode, level in force or handed blind cap asks of the other units. -/
inductive ZoneNews where
  | evaluate
  | loops
  | lights
  | blinds
  deriving DecidableEq, Repr

/-- One delivery to one unit. -/
def State.deliver (s : State) (z : Fin 16) : ZoneNews → State
  | .evaluate => s.evaluateZone z
  | .loops => s.lightModeAtLoops z
  | .lights => s.reevaluateAll (lightsOf s z)
  | .blinds => s.reevaluateAll (blindsOf s z)

/-- R155: what a change from one mode and level to another asks. -/
def modeNews (oldMode newMode : LightMode) (oldLevel newLevel : Option Nat) : List ZoneNews :=
  if oldMode ≠ newMode then [.evaluate, .loops, .lights]
  else if oldLevel ≠ newLevel then [.evaluate]
  else []

/-- R135: a saved cap handed to a zone: the cap it gives, or the cap as it stands when none is handed. A zone not in
use keeps 0. -/
def handedBlind (s : State) (z : Fin 16) (handed : Option Nat) : BlindState :=
  match handed with
  | none => s.blinds[z]
  | some c => match s.tables.zones[z] with
    | some r => ⟨min c r.blindMax, 0⟩
    | none => ⟨0, 0⟩

/-- One event on a zone's stack: the stack becomes `l`, a value may be handed to the zone, and the changes are
delivered in no given order (R155, R162, R110). The stack and the cap are both in place before the first delivery, so a
re-evaluation for the change of cap always sees the new light mode (R135, R162). DESIGN CHOICE, log 14. -/
def State.changeStack (s : State) (z : Fin 16) (l : List Override) (handed : Option Nat) : State :=
  let b := handedBlind s z handed
  let news := (if b.cap = s.blinds[z].cap then [] else [ZoneNews.blinds]) ++
    modeNews (lightMode s z) (modeOf l s.heldPhase) (levelOf s.overrides[z]) (levelOf l)
  inFreeOrder (fun s n => s.deliver z n) news ((s.setStack z l).setBlind z b)

/-! ### Removal and splice (R162) -/

/-- The saved blind cap of an entry (R153). -/
def OverrideBody.saved : OverrideBody → Option Nat
  | .inspection _ c => some c
  | .event _ c => some c
  | .dark c => some c
  | .climateHold => none

/-- The level of an entry. -/
def OverrideBody.level : OverrideBody → Option Nat
  | .inspection l _ => some l
  | .event l _ => some l
  | .dark _ => none
  | .climateHold => none

/-- A light-kind entry with another saved blind cap. -/
def OverrideBody.withSaved (c : Nat) : OverrideBody → OverrideBody
  | .inspection l _ => .inspection l c
  | .event l _ => .event l c
  | .dark _ => .dark c
  | .climateHold => .climateHold

/-- Hands a saved cap to the nearest light-kind entry of the entries above, given from below; `none` when there is no
such entry. -/
def spliceInto (c : Nat) : List Override → Option (List Override)
  | [] => none
  | e :: rest =>
    if e.body.isLight then some ({ e with body := e.body.withSaved c } :: rest)
    else (spliceInto c rest).map (e :: ·)

/-- Removes the entry at a position, bottom 0: the stack left and the value handed to the zone, if any (R162). -/
def removeAt (l : List Override) (i : Nat) : List Override × Option Nat :=
  match l[i]? with
  | none => (l, none)
  | some e =>
    match e.body.saved with
    | none => (l.eraseIdx i, none)
    | some c =>
      match spliceInto c (l.drop (i + 1)) with
      | some above => (l.take i ++ above, none)
      | none => (l.eraseIdx i, some c)

/-- Removes the entries at the positions given, in the order given; the value handed to the zone is that of the last
removal that handed one (R162). -/
def removeAll (l : List Override) (positions : List Nat) : List Override × Option Nat :=
  positions.foldl (fun (acc : List Override × Option Nat) i =>
    let r := removeAt acc.1 i
    (r.1, r.2.orElse (fun _ => acc.2))) (l, none)

/-- Positions of the entries that satisfy a test, from the top down. -/
def positionsDown (l : List Override) (f : Override → Bool) : List Nat :=
  ((List.range l.length).filter (fun i => (l[i]?.map f).getD false)).reverse

/-! ### Expiry (R163, R164) -/

/-- An entry with its expiry lowered by 1. -/
def Override.counted (e : Override) : Override := { e with expiry := e.expiry.map (· - 1) }

/-- Whether the expiry of an entry has reached 0. -/
def Override.expired (e : Override) : Bool := e.expiry == some 0

/-- R163, R164 for one zone, its expiries already lowered: removals, edges, hand-over and change of mode. -/
def State.expireZone (s : State) (z : Fin 16) : State :=
  let gone := positionsDown s.overrides[z] Override.expired
  if gone.isEmpty then s else
  let r := removeAll s.overrides[z] gone
  ((s.edges (gone.map (fun _ => (sourceExpired z, Edge.enter)))).changeStack z r.1 r.2)

/-- R163: the override unit's act on a minute boundary. -/
def State.overrideMinute (s : State) : State :=
  (List.finRange 16).foldl State.expireZone
    { s with overrides := Vector.ofFn (fun z => s.overrides[z].map Override.counted) }

/-! ### Phase changes (R156) -/

/-- R156: the override unit takes the calendar's phase; the zones whose mode changes are delivered ascending. -/
def State.takePhase (s : State) : State :=
  (List.finRange 16).foldl (fun t z =>
      inFreeOrder (fun t n => t.deliver z n) (modeNews (lightMode s z) (modeOf s.overrides[z] s.phase) none none) t)
    { s with heldPhase := s.phase }

end Sys2Proof.Machine
end

