-- ==== Sys2Proof/Machine/PointUnit.lean ====
section
/-! DEFINITION. Sensor points (03), the presence aggregate of a zone (R74 to R77) and the zone unit's act on a minute
boundary (R65 to R73). -/

namespace Sys2Proof.Machine

/-! ### Measurement points -/

/-- R30: the sample value of a payload. -/
def sampleValue (k : MeasKind) (payload : List Byte) : Option Int :=
  if payload.length < 2 then none else some (k.value payload 0)

/-- R31: whether a sample is plausible. -/
def plausible (r : MeasRec) (d : MeasDyn) (x : Int) : Bool :=
  withinInt r.low r.high x &&
    (r.stepLimit == 0 || (match d.lastRaw with
      | some last => decide (distance x last ≤ r.stepLimit)
      | none => true))

/-- R38: `y` after a sample. -/
def smooth (k : Nat) (y x : Int) : Int := y + roundHalfAway ((k : Int) * (x * 256 - y)) 4096

/-- R34 to R36: the point stands in WARMING with `y` and run count `run`, or is VALID when the warm-up count is
reached. -/
def warmed (r : MeasRec) (d : MeasDyn) (y : Int) (run : Nat) : MeasDyn :=
  { d with state := if r.warmUp ≤ run then .valid else .warming, y := some y, run }

/-- R33 to R37: a plausible sample. -/
def takePlausible (r : MeasRec) (d : MeasDyn) (x : Int) : MeasDyn :=
  let errors := d.errors - 1
  let next := match d.state with
    | .suspect => if errors = 0 then warmed r d (x * 256) 1 else d
    | .stale => warmed r d (x * 256) 1
    | .warming => match d.y with
      | none => warmed r d (x * 256) 1
      | some y => warmed r d (smooth r.k y x) (d.run + 1)
    | .valid => { d with y := some (smooth r.k (d.y.getD (x * 256)) x) }
  { next with errors, lastRaw := some x, timer := startTimer r.staleLimit }

/-- R32, R41: an implausible sample. -/
def takeImplausible (r : MeasRec) (d : MeasDyn) : MeasDyn :=
  let errors := min (d.errors + 1) (r.errThreshold + 1)
  if errors = r.errThreshold + 1 then
    { d with errors, state := .suspect, held := if d.state = .valid then d.y else d.held, y := none, run := 0 }
  else { d with errors }

/-- R40, R41: the expiry of the stale timer. -/
def goneStale (d : MeasDyn) : MeasDyn :=
  match d.state with
  | .valid => { d with state := .stale, held := d.y, y := none, run := 0 }
  | .warming => { d with state := .stale, y := none, run := 0 }
  | .stale => d
  | .suspect => d

/-- A point before its first sample (R29). -/
def freshMeas (r : MeasRec) : MeasDyn := ⟨.warming, none, none, none, 0, 0, startTimer r.staleLimit⟩

/-- A VALID point. -/
def PointDyn.isValid : PointDyn → Bool
  | .meas d => d.state == .valid
  | .pres _ => false
  | .unused => false

/-- The dynamic state of a measurement point changes without a write: a departure from VALID is told to the light
governor (R42) and a change of the degraded condition is an edge (R47). -/
def State.moveMeas (s : State) (p : Fin 64) (d : MeasDyn) : State :=
  let t := s.setPoint p (.meas d)
  let u := if s.points[p].isValid && !(PointDyn.meas d).isValid then t.lightDeparture p else t
  u.edges (edgesOf (sourcePoint p) s.points[p].degraded (PointDyn.meas d).degraded)

/-- R30 to R37: a SAMPLE payload at point `p`. -/
def State.takeSample (s : State) (p : Fin 64) (payload : List Byte) : State :=
  match s.tables.points[p], s.points[p] with
  | some (.meas r), .meas d =>
    match sampleValue r.kind payload with
    | some x =>
      if plausible r d x then
        let d' := takePlausible r d x
        let t := s.moveMeas p d'
        match d'.state, d'.y with
        | .valid, some y => t.lightSample p (reported y)
        | _, _ => t
      else s.moveMeas p (takeImplausible r d)
    | none => s.moveMeas p (takeImplausible r d)
  | _, _ => s

/-! ### Presence aggregates -/

/-- R46: a point counts as present. -/
def PointDyn.counts : PointDyn → Bool
  | .pres d => d.state == .active && d.reading
  | .meas _ => false
  | .unused => false

/-- The presence points of a zone (R64). -/
def presencePoints (t : Tables) (z : Fin 16) : List (Fin 64) :=
  (List.finRange 64).filter (fun p => match t.points[p] with
    | some (.pres r) => r.zone == z
    | some (.meas _) => false
    | none => false)

/-- Whether some presence point of the zone counts as present. -/
def someCounts (s : State) (z : Fin 16) : Bool := (presencePoints s.tables z).any (fun p => s.points[p].counts)

/-- The aggregate of a zone is set and its absence timer with it; a change is delivered to the actuator unit (R77). -/
def State.setPresence (s : State) (z : Fin 16) (present : Bool) (absence : Option Nat) : State :=
  let t := s.setZone z { s.zones[z] with present, absence }
  if s.zones[z].present = present then t else t.reevaluateAll (lightsOf t z)

/-- The absence timer of a zone at its timeout, in seconds. -/
def absenceStart (r : ZoneRec) : Option Nat := some (r.absenceTimeout * 60)

/-- R74: a presence point of the zone begins or ceases to count. -/
def State.countTold (s : State) (z : Fin 16) (begins : Bool) : State :=
  match s.tables.zones[z] with
  | none => s
  | some r =>
    if begins then s.setPresence z true none
    else if someCounts s z then s
    else s.setPresence z s.zones[z].present (absenceStart r)

/-- R76: the zone's presence points changed; `hadNone` says that it had none before. -/
def State.membershipTold (s : State) (z : Fin 16) (hadNone : Bool) : State :=
  match s.tables.zones[z] with
  | none => s
  | some r =>
    if (presencePoints s.tables z).isEmpty then s.setPresence z true none
    else if hadNone && !someCounts s z then s.setPresence z s.zones[z].present (absenceStart r)
    else s

/-- R76: the aggregate and timer of a zone that enters use. -/
def settledPresence (s : State) (z : Fin 16) (r : ZoneRec) : Bool × Option Nat :=
  if (presencePoints s.tables z).isEmpty || someCounts s z then (true, none) else (true, absenceStart r)

/-! ### Presence points -/

/-- A presence point before its first frame (R29). -/
def freshPres (r : PresRec) : PresDyn := ⟨.active, false, startTimer r.staleLimit, none⟩

/-- The stuck timer at the stuck limit, in seconds. -/
def stuckStart (r : PresRec) : Option Nat := some (r.stuckLimit * 60)

/-- R43: a PRESENCE frame with a reading. -/
def takeReading (r : PresRec) (d : PresDyn) (reading : Bool) : PresDyn :=
  let staleTimer := startTimer r.staleLimit
  match d.state with
  | .active =>
    let stuckTimer := match d.reading, reading with
      | false, true => stuckStart r
      | true, false => none
      | true, true => d.stuckTimer
      | false, false => d.stuckTimer
    { state := .active, reading, staleTimer, stuckTimer }
  | .stale => { state := .active, reading, staleTimer, stuckTimer := if reading then stuckStart r else none }
  | .stuck =>
    if reading then { state := .stuck, reading := true, staleTimer, stuckTimer := d.stuckTimer }
    else { state := .active, reading := false, staleTimer, stuckTimer := none }

/-- The dynamic state of a presence point changes without a write: whether it counts is told to its zone (R46), and
the degraded condition gives an edge (R47). -/
def State.movePres (s : State) (p : Fin 64) (z : Fin 16) (d : PresDyn) : State :=
  let t := s.setPoint p (.pres d)
  let u := if s.points[p].counts = (PointDyn.pres d).counts then t else t.countTold z (PointDyn.pres d).counts
  u.edges (edgesOf (sourcePoint p) s.points[p].degraded (PointDyn.pres d).degraded)

/-- R43: a PRESENCE frame at point `p` with the presence value handed on (R20). -/
def State.takePresence (s : State) (p : Fin 64) (reading : Bool) : State :=
  match s.tables.points[p], s.points[p] with
  | some (.pres r), .pres d => s.movePres p r.zone (takeReading r d reading)
  | _, _ => s

/-! ### Zone unit at a minute boundary -/

/-- The reported values of the VALID points of a zone for a quantity (R64, R66). -/
def readings (s : State) (z : Fin 16) (k : MeasKind) : List Int :=
  (List.finRange 64).filterMap (fun p => match s.tables.points[p] with
    | some (.meas r) => if r.zone = z then validReading s p k else none
    | some (.pres _) => none
    | none => none)

/-- R66: the estimate from the values of the VALID points. -/
def estimateOf (vs : List Int) : Option Int := if vs.isEmpty then none else some (roundHalfAway vs.sum vs.length)

/-- The regions of an estimate (R67). -/
inductive Region where
  | none | inner | between | outer
  deriving DecidableEq, Repr

/-- R67. -/
def regionOf (b : Band) (v : Option Int) : Region :=
  match v with
  | .none => .none
  | some x =>
    if withinInt b.innerLow b.innerHigh x then .inner
    else if withinInt b.outerLow b.outerHigh x then .between
    else .outer

/-- R67: the recorded side after an estimate. -/
def sideAfter (b : Band) (v : Option Int) (side : Option Side) : Option Side :=
  match v with
  | none => side
  | some x => if b.innerHigh < x then some .high else if x < b.innerLow then some .low else side

/-- R68, R69: state and hold counter after an estimate. -/
def condNext (b : Band) (region : Region) (state : CondState) (hold : Nat) : CondState × Nat :=
  match state, region with
  | _, .none => (.unknown, 0)
  | .unknown, .inner => (.inBand, 0)
  | .inBand, .inner => (.inBand, 0)
  | .drift, .inner => (.recovering, b.hold)
  | .excursion, .inner => (.recovering, b.hold)
  | .recovering, .inner => if min hold b.hold - 1 = 0 then (.inBand, 0) else (.recovering, min hold b.hold - 1)
  | .excursion, .between => (.excursion, 0)
  | .unknown, .between => (.drift, 0)
  | .inBand, .between => (.drift, 0)
  | .drift, .between => (.drift, 0)
  | .recovering, .between => (.drift, 0)
  | _, .outer => (.excursion, 0)

/-- R67 to R69: one evaluation of a condition machine. -/
def CondMachine.evaluated (m : CondMachine) (b : Band) (v : Option Int) : CondMachine :=
  let n := condNext b (regionOf b v) m.state m.hold
  ⟨n.1, sideAfter b v m.side, n.2⟩

/-- R71: the ring with its oldest entry replaced, in order oldest first. -/
def ringPush (ring : Vector (Option Int) 60) (v : Option Int) : Vector (Option Int) 60 :=
  Vector.ofFn (fun i => if h : i.val + 1 < 60 then ring[i.val + 1] else v)

/-- R72: the rate between two estimates. -/
def rateBetween (new old : Option Int) : Option Nat :=
  match new, old with
  | some a, some b => some (distance a b)
  | _, _ => none

/-- R72: RATE_HOLD after a judgement. -/
def rateJudged (r : ZoneRec) (rate : Option Nat) (was : Bool) : Bool :=
  match rate with
  | none => was
  | some n => if r.rateLimit < n then true else if n ≤ r.rateRelease then false else was

/-- R65: a zone in use after a minute boundary. -/
def zoneAfterMinute (s : State) (z : Fin 16) (r : ZoneRec) : ZoneDyn :=
  let d := s.zones[z]
  let rhEst := estimateOf (readings s z .rh)
  let tempEst := estimateOf (readings s z .temp)
  let rate := rateBetween rhEst d.ring[0]
  { d with
    rhEst, tempEst, rate
    rh := d.rh.evaluated r.rh rhEst
    temp := d.temp.evaluated r.temp tempEst
    ring := ringPush d.ring rhEst
    rateHold := rateJudged r rate d.rateHold }

/-- Edges of the three sources of a zone that are conditions (R70, R73). -/
def zoneEdges (z : Fin 16) (old new : ZoneDyn) : List (Fin 324 × Edge) :=
  edgesOf (sourceRh z) (old.rh.state == .excursion) (new.rh.state == .excursion) ++
    edgesOf (sourceTemp z) (old.temp.state == .excursion) (new.temp.state == .excursion) ++
    edgesOf (sourceRateHold z) old.rateHold new.rateHold

/-- R65: the zones after a minute boundary; one not in use is passed over (R63). -/
def zonesAfterMinute (s : State) : Vector ZoneDyn 16 :=
  Vector.ofFn (fun z => match s.tables.zones[z] with
    | some r => zoneAfterMinute s z r
    | none => s.zones[z])

/-- R65: the zone unit's act on a minute boundary. -/
def State.zoneMinute (s : State) : State :=
  ({ s with zones := zonesAfterMinute s } : State).edges
    ((List.finRange 16).flatMap (fun z => zoneEdges z s.zones[z] (zonesAfterMinute s)[z]))

end Sys2Proof.Machine
end

