-- ==== Sys2Proof/Machine/ActuatorUnit.lean ====
section
/-! DEFINITION. The actuator unit (07: R108, R109, R113 to R115) and the climate governor's act on a minute boundary
(R145). -/

namespace Sys2Proof.Machine

/-! ### Commands (R108, R109, R144) -/

/-- R109: the offer that answers a COMMAND that brought a value: the effective level, or V. -/
def State.offerLevel (s : State) (a : Fin 64) (r : ActRec) : State :=
  match effectiveLevel s a r with
  | some v => s.offerGovernor a r v
  | none => s

/-- R108, R109: a COMMAND payload for actuator `a`. -/
def State.takeCommand (s : State) (a : Fin 64) (payload : List Byte) : State :=
  match s.tables.actuators[a] with
  | none => s
  | some r =>
    if payload.length < 2 then s
    else (s.setActuator a { s.actuators[a] with
      requested := some (limit r.kind.low r.kind.high (r.kind.value payload)) }).offerLevel a r

/-! ### Feedback supervision (R113 to R115) -/

/-- The dynamic state of an actuator changes without a write; a change of the FAULT condition is an edge (R115). -/
def State.moveActuator (s : State) (a : Fin 64) (d : ActDyn) : State :=
  (s.setActuator a d).edges (edgesOf (sourceActuator a) (s.actuators[a].state == .fault) (d.state == .fault))

/-- R113: the completion of a governor command for `a` is told. -/
def State.completionTold (s : State) (a : Fin 64) : State :=
  match s.tables.actuators[a] with
  | none => s
  | some r =>
    match r.feedback, s.actuators[a].sent with
    | some f, some _ => s.moveActuator a { s.actuators[a] with state := .await, timer := some f.timeout }
    | _, _ => s

/-- R114: a FEEDBACK payload for `a`. -/
def State.takeFeedback (s : State) (a : Fin 64) (payload : List Byte) : State :=
  match s.tables.actuators[a] with
  | none => s
  | some r =>
    match r.feedback with
    | none => s
    | some f =>
      if payload.length < 2 then s else
      let d := s.actuators[a]
      let v := r.kind.value payload
      match d.sent with
      | some sent =>
        if distance v sent ≤ f.tolerance then s.moveActuator a { d with feedback := some v, state := .normal, timer := none }
        else s.moveActuator a { d with feedback := some v }
      | none => s.moveActuator a { d with feedback := some v }

/-! ### Climate governor at a minute boundary (R145) -/

/-- R145 for one setpoint actuator. -/
def State.climateStep (s : State) (a : Fin 64) : State :=
  match s.tables.actuators[a] with
  | none => s
  | some r =>
    if r.kind.isLight then s else
    let t := s.setFlag a false
    match targetOf t a r with
    | none => t
    | some target =>
      if isHeld t r || t.actuators[a].sent == some target then t
      else t.offerLevel a r

/-- R145: the climate governor's act on a minute boundary. -/
def State.climateMinute (s : State) : State := (List.finRange 64).foldl State.climateStep s

end Sys2Proof.Machine
end

