-- ==== Sys2Proof/Machine/StoreUnit.lean ====
section
/-! DEFINITION. The store (12): the image, checkpoint records, starts and ends of writes. -/

namespace Sys2Proof.Machine

/-! ### Checkpoint records (R185) -/

/-- What a checkpoint record holds of an object; an UNUSED object has id 0 and zero values (12.3). -/
def ckptOf (r : Option ObjectRec) (x : Account) : CkptData :=
  match r with
  | some r => ⟨r.id, x.before, x.today, x.days, x.allowance, x.lastPeriod, x.estimated, x.doseLost⟩
  | none => ⟨0, 0, 0, 0, 0, 0, false, false⟩

/-- The copy of the 128 accounts that a checkpoint takes at its start (R184). -/
def ckptCopy (s : State) : Vector CkptData 128 := Vector.ofFn (fun i => ckptOf s.tables.objects[i] s.accounts[i])

/-- Generation `g` is newer than generation `h` (R185). -/
def newer (g h : Quad) : Bool :=
  let diff := (g - h).toNat
  if diff = 0 ∨ diff = 2147483648 then Config.newerOnTie g h else decide (diff ≤ 2147483647)

/-- The newest good record of an object (R185). -/
def Slots.newest (x : Slots) : Option Ckpt :=
  match x.slot0, x.slot1 with
  | some a, some b => if newer b.generation a.generation then some b else some a
  | some a, none => some a
  | none, b => b

/-- Whether a checkpoint write fills slot 1: the slot without the newest good record, slot 0 when neither is good
(R185). -/
def Slots.fillsOne (x : Slots) : Bool :=
  match x.slot0, x.slot1 with
  | some a, some b => !newer b.generation a.generation
  | some _, none => true
  | none, some _ => false
  | none, none => false

/-- The slot that a checkpoint write fills, filled; `none` leaves a check that does not hold. -/
def Slots.fill (x : Slots) (c : Option Ckpt) : Slots :=
  if x.fillsOne then { x with slot1 := c } else { x with slot0 := c }

/-- The newest generation among the good records of the region (R185). Where the good generations have no single newest, it
is what comparing the objects' newest records in ascending index leaves. DESIGN CHOICE, log 8. -/
def newestGeneration (v : Vector Slots 128) : Option Quad :=
  (List.finRange 128).foldl (fun (acc : Option Quad) i =>
    match acc, v[i].newest with
    | none, c => c.map (·.generation)
    | some g, none => some g
    | some g, some c => if newer c.generation g then some c.generation else some g) none

/-- The generation of the next write (R185). -/
def nextGeneration (v : Vector Slots 128) : Quad :=
  match newestGeneration v with
  | some g => g + 1
  | none => 1

/-- The region after a write of which the records that satisfy `good` stand and those that satisfy `torn` do not; the
others were not begun (R185, R189). -/
def writeRecords (v : Vector Slots 128) (copy : Vector CkptData 128) (good torn : Fin 128 → Bool) : Vector Slots 128 :=
  Vector.ofFn (fun i =>
    if torn i then v[i].fill none
    else if good i then v[i].fill (some ⟨nextGeneration v, copy[i]⟩)
    else v[i])

/-! ### Starts (R183, R184) -/

/-- A checkpoint starts: it copies the accounts (R184). -/
def State.startCheckpoint (s : State) : State :=
  s.setStore { s.store with write := .checkpoint (ckptCopy s), due := false }

/-- A save starts: it copies the working tables (R183). -/
def State.startSave (s : State) : State := s.setStore { s.store with write := .save s.tables, saveWaiting := false }

/-- R184: a checkpoint falls due. At midnight on a free write path the first of the minute's and the day's starts and the
other is left due: two writes, where R184 allows one as well. DESIGN CHOICE, log 15. -/
def State.checkpointDue (s : State) : State :=
  if s.store.write = .none ∧ s.store.saveWaiting = false then s.startCheckpoint
  else s.setStore { s.store with due := true }

/-- What waits starts on a free write path: a save before a checkpoint (R183, R184, R185). -/
def State.startWaiting (s : State) : State :=
  if s.store.write = .none then
    if s.store.saveWaiting then s.startSave else if s.store.due then s.startCheckpoint else s
  else s

/-- R184: the store's act on a minute boundary. -/
def State.storeMinute (s : State) (minute : Nat) : State := if minute % 10 = 0 then s.checkpointDue else s

/-! ### Ends (R183, R185, R186) -/

/-- The store changes; a change of STORE_FAULT is an edge of source 320, or one of the reset's (R186). -/
def State.moveStore (s : State) (x : Store) : State :=
  (s.setStore x).edgesOrDefer (edgesOf sourceStoreFault s.store.fault x.fault)

/-- R185: the store after a checkpoint write whose records `bad` read back different. -/
def Store.afterCheckpoint (st : Store) (copy : Vector CkptData 128) (bad : List (Fin 128)) : Store :=
  { st with
    slots := writeRecords st.slots copy (fun _ => true) (bad.contains ·)
    write := .none
    ckptFault := !bad.isEmpty }

/-- R183: the store after a save whose bytes read back equal or not. -/
def Store.afterSave (st : Store) (copy : Tables) (equal : Bool) : Store :=
  { st with
    image := ⟨copy, if equal then imageCheck copy else ~~~ imageCheck copy⟩
    write := .none
    imageFault := !equal }

/-- R182: whether the image is valid. -/
def Image.valid (m : Image) : Bool := imageCheck m.tables == m.check

/-- R188, R189: the store when a power-on reset stops the write in progress. -/
def Store.stopped (st : Store) (written torn : List (Fin 128)) : Store :=
  match st.write with
  | .none => st
  | .save copy => { st with image := ⟨copy, ~~~ imageCheck copy⟩ }
  | .checkpoint copy => { st with slots := writeRecords st.slots copy (written.contains ·) (torn.contains ·) }

end Sys2Proof.Machine
end

