-- ==== Sys2Proof/Machine/Calendar.lean ====
section
/-! DEFINITION. The calendar (04): phase, clock, the events it gives the other units, and when a unit takes one of them
that falls during a reset. -/

namespace Sys2Proof.Machine

/-! ### Phase (R57) -/

/-- Condition 1 of R57 fails: a holiday entry in use names the day. -/
def isHoliday (t : Tables) (day : Nat) : Bool := t.holidays.toList.any (· == some day)

/-- Condition 2 of R57: the week entry of the day of week spans the minute. -/
def inHours (t : Tables) (dow minute : Nat) : Bool :=
  let e := t.week.toList.getD dow ⟨0, 0⟩
  decide (e.openMinute ≤ minute) && decide (minute < e.closeMinute)

/-- R57: the phase that a clock and a schedule give. -/
def phaseOf (t : Tables) (c : Clock) : Phase :=
  if c.unset then .open else if !isHoliday t c.day && inHours t c.dow c.minute then .open else .closed

/-- The phase is evaluated; the result says whether it changed (R57). -/
def State.evaluatePhase (s : State) : State × Bool :=
  (s.setPhase (phaseOf s.tables s.clock), phaseOf s.tables s.clock != s.phase)

/-! ### The clock (R50) -/

/-- A new day on the clock (R50). -/
def Clock.nextDay (c : Clock) : Clock :=
  { c with minute := 0, dow := if c.dow = 6 then 0 else c.dow + 1, day := if c.day = 65535 then 65535 else c.day + 1 }

/-- R50: the clock a second later. -/
def Clock.advanced (c : Clock) : Clock :=
  if c.second + 1 ≤ 59 then { c with second := c.second + 1 }
  else if c.minute + 1 ≤ 1439 then { c with second := 0, minute := c.minute + 1 }
  else { c with second := 0 }.nextDay

/-- The second that drives the clock drives every running timer (04 section 4.1). -/
def State.tickTimers (s : State) : State :=
  { s with
    points := Vector.ofFn (fun p => match s.points[p] with
      | .unused => .unused
      | .meas d => .meas { d with timer := tickTimer d.timer }
      | .pres d => .pres { d with staleTimer := tickTimer d.staleTimer, stuckTimer := tickTimer d.stuckTimer })
    zones := Vector.ofFn (fun z => { s.zones[z] with absence := tickTimer s.zones[z].absence })
    actuators := Vector.ofFn (fun a => { s.actuators[a] with timer := tickTimer s.actuators[a].timer }) }

/-! ### Events of the calendar at the units -/

/-- One unit takes an event. -/
def State.take (s : State) : Act → State
  | .zoneMinute => s.zoneMinute
  | .overrideMinute => s.overrideMinute
  | .exposureMinute => s.exposureMinute
  | .lightMinute => s.lightMinute
  | .climateMinute => s.climateMinute
  | .storeMinute minute => s.storeMinute minute
  | .exposureDay n => s.exposureDay n
  | .storeDay => s.checkpointDue
  | .phaseChange => s.takePhase
  | .clockSetEdge => s.edges [(sourceClockUnset, .exit)]

/-- Whether an event that falls during a reset waits until the reload; `none` where either order is a valid outcome
(R60, R79, R103, R152, R167, R187, R188; log 12). -/
def waits : ResetStage → Act → Option Bool
  | .reloaded _, _ => some false
  | _, .phaseChange => some false
  | _, .clockSetEdge => some false
  | .hardWait, .exposureMinute => some false
  | .hardWait, .exposureDay _ => some false
  | .hardWait, .storeMinute _ => some false
  | .hardWait, .storeDay => some false
  | .hardCheckpoint, .exposureMinute => some true
  | .hardCheckpoint, .exposureDay _ => some true
  | .hardCheckpoint, .storeMinute _ => some true
  | .hardCheckpoint, .storeDay => some true
  | _, _ => none

/-- Holds an event until the reload. -/
def State.hold (s : State) (a : Act) : State := { s with held := s.held ++ [a] }

/-- R60: an event is taken once, at its time or, during a reset, after the unit's reset values. -/
def State.takeOrHold (s : State) (a : Act) : State :=
  match s.resetting with
  | none => s.take a
  | some stage =>
    match waits stage a with
    | some false => s.take a
    | some true => s.hold a
    | none =>
      let t := { s with free := s.free + 1 }
      if Config.freeChoice s.free % 2 = 0 then t.take a else t.hold a

/-- The events that reach the units together, in no given order (R52, R57, R90). -/
def State.takeAll (s : State) (l : List Act) : State := inFreeOrder State.takeOrHold l s

/-! ### One second (R50 to R52) -/

/-- The units that act on a minute boundary (R51, 04 opening). -/
def minuteActs (minute : Nat) : List Act :=
  [.zoneMinute, .overrideMinute, .exposureMinute, .lightMinute, .climateMinute, .storeMinute minute]

/-- The units that act on a day boundary (R52, 04 opening). -/
def dayActs (n : Nat) : List Act := [.exposureDay n, .storeDay]

/-- The phase change that an evaluation gives. -/
def phaseActs (changed : Bool) : List Act := if changed then [.phaseChange] else []

/-- A minute boundary, with a day boundary when the advance passed midnight on a set clock (R51, R52). -/
def State.minuteBoundary (s : State) (midnight : Bool) : State :=
  let e := s.evaluatePhase
  e.1.takeAll (minuteActs s.clock.minute ++ (if midnight && !s.clock.unset then dayActs 1 else []) ++ phaseActs e.2)

/-- R50: one second of the time base. The clock stands still during a power-on reset (R60). -/
def State.oneSecond (s : State) : State :=
  if s.resetting = some (.reloaded .powerOn) then s else
  let t := (s.setClock s.clock.advanced).tickTimers
  if t.clock.second = 0 then t.minuteBoundary (t.clock.minute == 0) else t

/-! ### SET_TIME (R53, R54) -/

/-- The day difference of the day boundary that a SET_TIME produces, or 0 (R54). -/
def dayDifference (c : Clock) (day : Nat) : Nat := if c.unset then 0 else day - c.day

/-- R53, R54, R57, R59: the clock is set. -/
def State.setTime (s : State) (c : Clock) : State :=
  let n := dayDifference s.clock c.day
  let e := (s.setClock c).evaluatePhase
  e.1.takeAll ((if n = 0 then [] else dayActs n) ++ phaseActs e.2 ++ (if s.clock.unset then [Act.clockSetEdge] else []))

end Sys2Proof.Machine
end

