-- ==== Sys2Proof/Machine/TableWrites.lean ====
section
/-! DEFINITION. Writes of table entries: the checks against other records (R23, R80) and the effects a valid write has
(R13, R25, R29, R56, R62, R63, R76, R81 to R83, R106, R129, R136, R142, R176). -/

namespace Sys2Proof.Machine

/-! ### DEVICE (R13, R176) -/

/-- A port takes a line rate (R13). -/
def PortState.withRate (q : PortState) (rate : LineRate) : PortState := { q with assembly := .discarding, rate, rateDue := false }

/-- A port at a write of the DEVICE entry: a changed rate takes effect at once, or at the end of the transmission in
progress (R13). -/
def PortState.rateWritten (q : PortState) (was rate : LineRate) : PortState :=
  if was = rate then q else if q.tx.isSome then { q with rateDue := true } else q.withRate rate

/-- R13, R176: a valid write of the DEVICE entry. -/
def State.writeDevice (s : State) (e : DeviceEntry) : State :=
  let d := s.tables.device
  { s with
    tables := { s.tables with device := e }
    ports := ⟨s.ports.b.rateWritten d.rateB e.rateB, s.ports.g1.rateWritten d.rateG1 e.rateG1,
      s.ports.g2.rateWritten d.rateG2 e.rateG2⟩ }

/-! ### CLASSIFIER (R23, R25) -/

/-- Whether the record a target names fits an entry of a kind, an unused record fitting all (R23). -/
def targetFits (t : Tables) (kind : ClassKind) : Target → Bool
  | .toPoint p =>
    match t.points[p] with
    | none => true
    | some (.meas _) => kind == .sample
    | some (.pres _) => kind == .presence
  | .toActuator a =>
    match t.actuators[a] with
    | none => true
    | some r => kind == .command || (kind == .feedback && r.feedback.isSome)
  | .pass _ => true
  | .drop _ => true

/-- R23: the check of an entry against the records. -/
def classFits (t : Tables) : Option ClassEntry → Bool
  | none => true
  | some e => targetFits t e.kind e.target

/-- R25: a valid write of a classification entry. -/
def State.writeClass (s : State) (i : Fin 96) (e : Option ClassEntry) : State :=
  s.setTables { s.tables with classifier := s.tables.classifier.set i e }

/-! ### POINT (R29, R46, R47, R64, R76) -/

/-- The dynamic state that a write of a record gives (R29). -/
def freshPoint : Option PointRec → PointDyn
  | none => .unused
  | some (.meas r) => .meas (freshMeas r)
  | some (.pres r) => .pres (freshPres r)

/-- The zone of a record in use of kind PRESENCE. -/
def presenceZone : Option PointRec → Option (Fin 16)
  | some (.pres r) => some r.zone
  | some (.meas _) => none
  | none => none

/-- R46: the point ceases to count in its former zone. -/
def State.ceaseTold (s : State) (counted : Bool) (former : Option (Fin 16)) : State :=
  match former with
  | some z => if counted then s.countTold z false else s
  | none => s

/-- R76: membership told to a zone. -/
def State.membersTold (s : State) (zone : Option (Fin 16)) (hadNone : Bool) : State :=
  match zone with
  | some z => s.membershipTold z hadNone
  | none => s

/-- Whether a zone had no presence point. -/
def hadNoPresence (t : Tables) : Option (Fin 16) → Bool
  | some z => (presencePoints t z).isEmpty
  | none => false

/-- R29: a valid write of a point entry. -/
def State.writePoint (s : State) (p : Fin 64) (r : Option PointRec) : State :=
  let was := s.points[p]
  let former := presenceZone s.tables.points[p]
  let next := presenceZone r
  let t1 := (s.setTables { s.tables with points := s.tables.points.set p r }).setPoint p (freshPoint r)
  let t2 := if was.isValid then t1.lightDeparture p else t1
  let t3 := t2.ceaseTold was.counts former
  let t4 := if former = next then t3 else (t3.membersTold former false).membersTold next (hadNoPresence s.tables next)
  t4.edges (edgesOf (sourcePoint p) was.degraded false)

/-! ### ACTUATOR (R106, R129, R142, R150, R12) -/

/-- Whether two records are in use with the same identity (R106). -/
def sameIdentity (old new : Option ActRec) : Bool :=
  match old, new with
  | some x, some y => x.identity == y.identity
  | _, _ => false

/-- The dynamic state of an actuator after a write (R106). -/
def actAfterWrite (d : ActDyn) (old new : Option ActRec) : ActDyn :=
  if sameIdentity old new then
    if (new.bind (·.feedback)).isSome then d else { d with feedback := none, state := .normal, timer := none }
  else .unused

/-- The object, max level and zone of a SPOT record in use. -/
def spotFields : Option ActRec → Option (Fin 128 × Nat × Fin 16)
  | some ⟨.spot o _ _ maxLevel _, _, _, _, zone, _⟩ => some (o, maxLevel, zone)
  | some ⟨.blind _ _, _, _, _, _, _⟩ => none
  | some ⟨.rhSp _, _, _, _, _, _⟩ => none
  | some ⟨.tempSp _, _, _, _, _, _⟩ => none
  | none => none

/-- A loop forced to 0 when its object is not PACING or its zone is DARK or CLOSED (R121, R129). -/
def loopJoined (s : State) (o : Fin 128) (zone : Fin 16) (c : LoopCtx) : LoopCtx :=
  if s.accounts[o].state = .pacing ∧ (lightMode s zone).isDark = false then c else { c with u := 0 }

/-- The loop context at an index after a write (R129). -/
def loopAfterWrite (s : State) (c : LoopCtx) (old new : Option ActRec) : LoopCtx :=
  match spotFields new with
  | none => .unused
  | some (o, maxLevel, zone) =>
    loopJoined s o zone (if sameIdentity old new then ⟨min c.u (256 * maxLevel), none, false⟩ else .unused)

/-- R12, last part: a mark left on an actuator in use is served at the write when its port's queue holds no entry. -/
def State.serveAtWrite (s : State) (a : Fin 64) : State :=
  match s.tables.actuators[a] with
  | none => s
  | some r => if s.marks[a] && (s.port r.port.line).queue.isEmpty then s.serveMark a else s

/-- R106: a valid write of an actuator entry. -/
def State.writeActuator (s : State) (a : Fin 64) (r : Option ActRec) : State :=
  let old := s.tables.actuators[a]
  let t := s.setTables { s.tables with actuators := s.tables.actuators.set a r }
  let t := t.setLoop a (loopAfterWrite t s.loops[a] old r)
  let t := t.setFlag a (s.flags[a] && sameIdentity old r)
  ((t.moveActuator a (actAfterWrite s.actuators[a] old r)).reevaluate a).serveAtWrite a

/-! ### OBJECT (R80 to R83) -/

/-- R80: a named point, when in use, is of a measurement kind. -/
def pointIs (t : Tables) (p : Fin 64) (k : MeasKind) : Bool :=
  match t.points[p] with
  | none => true
  | some (.meas r) => r.kind == k
  | some (.pres _) => false

/-- R80: the named records, when in use, are of the kinds asked. -/
def objectFits (t : Tables) : Option ObjectRec → Bool
  | none => true
  | some r =>
    pointIs t r.lightPoint .illum && (match r.uv with
      | some u => pointIs t u.point .uv
      | none => true) && (match r.spot with
      | some a => (match t.actuators[a] with
        | some x => x.kind.isSpot
        | none => true)
      | none => true)

/-- The account after a write (R81 to R83). -/
def accountAfterWrite (s : State) (x : Account) (old new : Option ObjectRec) : Account :=
  match new with
  | none => .unused
  | some r => if old.map (·.id) = some r.id then x.kept r else freshAccount s r

/-- R81 to R83: a valid write of an object entry. -/
def State.writeObject (s : State) (i : Fin 128) (r : Option ObjectRec) : State :=
  let t := s.setTables { s.tables with objects := s.tables.objects.set i r }
  t.commitAccount i (accountAfterWrite t s.accounts[i] s.tables.objects[i] r)

/-! ### ZONE (R62, R63, R76, R136) -/

/-- The dynamic state of a zone that enters use (R62, R76). -/
def enteringZone (s : State) (z : Fin 16) (r : ZoneRec) : ZoneDyn :=
  { ZoneDyn.unused with present := (settledPresence s z r).1, absence := (settledPresence s z r).2 }

/-- The dynamic state of a zone after a write. -/
def zoneAfterWrite (s : State) (z : Fin 16) (d : ZoneDyn) (old new : Option ZoneRec) : ZoneDyn :=
  match old, new with
  | _, none => .unused
  | some _, some _ => d
  | none, some r => enteringZone s z r

/-- The blind state of a zone after a write (R136). -/
def blindAfterWrite (b : BlindState) (old new : Option ZoneRec) : BlindState :=
  match old, new with
  | some _, some r => { b with cap := min b.cap r.blindMax }
  | _, none => ⟨0, 0⟩
  | none, some _ => ⟨0, 0⟩

/-- R62, R63, R136: a valid write of a zone entry. The changes of aggregate and of cap reach the actuator unit in no
given order (R77, R110). The record, the aggregate and the blind state are in place before the first delivery, so at a write
that changes both each re-evaluation sees both. DESIGN CHOICE, log 14. -/
def State.writeZone (s : State) (z : Fin 16) (r : Option ZoneRec) : State :=
  let old := s.tables.zones[z]
  let t := s.setTables { s.tables with zones := s.tables.zones.set z r }
  let d := zoneAfterWrite t z s.zones[z] old r
  let b := blindAfterWrite s.blinds[z] old r
  let news := (if s.zones[z].present = d.present then [] else [ZoneNews.lights]) ++
    (if b.cap = s.blinds[z].cap then [] else [ZoneNews.blinds])
  (inFreeOrder (fun s n => s.deliver z n) news ((t.setZone z d).setBlind z b)).edges (zoneEdges z s.zones[z] d)

/-! ### SCHEDULE and NOTICE (R56, R57, R176) -/

/-- The phase is evaluated at once, and a change delivered (R57). -/
def State.scheduleChanged (s : State) : State :=
  let e := s.evaluatePhase
  if e.2 then e.1.takePhase else e.1

/-- R56: a valid write of a week entry. -/
def State.writeWeek (s : State) (w : Fin 7) (e : WeekEntry) : State :=
  (s.setTables { s.tables with week := s.tables.week.set w e }).scheduleChanged

/-- R56: a valid write of a holiday entry. -/
def State.writeHoliday (s : State) (h : Fin 16) (day : Option Nat) : State :=
  (s.setTables { s.tables with holidays := s.tables.holidays.set h day }).scheduleChanged

/-- R176: a valid write of a NOTICE entry. -/
def State.writeNotice (s : State) (src : Fin 324) (e : NoticeEntry) : State :=
  s.setTables { s.tables with notices := s.tables.notices.set src e }

/-! ### One entry (R173) -/

/-- A decoded entry that passes its check against other records is written. -/
def writeChecked {α : Type} (x : Except Status α) (fits : α → Bool) (write : α → State) : Except Status State :=
  match x with
  | .error e => .error e
  | .ok v => if fits v then .ok (write v) else .error .outOfRange

/-- R173: an entry of a table is written at an index, or the status that refuses it. -/
def State.writeEntry (s : State) (table : TableName) (i : Nat) (bs : List Byte) : Except Status State :=
  match table with
  | .device => writeChecked (decodeDevice bs) (fun _ => true) s.writeDevice
  | .classifier =>
    match index? i 96 with
    | some k => writeChecked (decodeClass bs) (classFits s.tables) (s.writeClass k)
    | none => .error .outOfRange
  | .point =>
    match index? i 64 with
    | some p => writeChecked (decodePoint bs) (fun _ => true) (s.writePoint p)
    | none => .error .outOfRange
  | .actuator =>
    match index? i 64 with
    | some a => writeChecked (decodeActuator bs) (fun _ => true) (s.writeActuator a)
    | none => .error .outOfRange
  | .object =>
    match index? i 128 with
    | some k => writeChecked (decodeObject bs) (objectFits s.tables) (s.writeObject k)
    | none => .error .outOfRange
  | .zone =>
    match index? i 16 with
    | some z => writeChecked (decodeZone bs) (fun _ => true) (s.writeZone z)
    | none => .error .outOfRange
  | .schedule =>
    match index? i 7, index? (i - 7) 16 with
    | some w, _ => writeChecked (decodeWeek bs) (fun _ => true) (s.writeWeek w)
    | none, some h => writeChecked (decodeHoliday bs) (fun _ => true) (s.writeHoliday h)
    | none, none => .error .outOfRange
  | .notice =>
    match index? i 324 with
    | some src => writeChecked (decodeNotice bs) (fun _ => true) (s.writeNotice src)
    | none => .error .outOfRange

/-- The entry that READ_ENTRY gives (R175, R191). -/
def readEntry (t : Tables) (table : TableName) (i : Nat) : Option (List Byte) :=
  match table with
  | .device => if i = 0 then some (encodeDevice t.device) else none
  | .classifier => (index? i 96).map (fun k => encodeClass t.classifier[k])
  | .point => (index? i 64).map (fun p => encodePoint t.points[p])
  | .actuator => (index? i 64).map (fun a => encodeActuator t.actuators[a])
  | .object => (index? i 128).map (fun k => encodeObject t.objects[k])
  | .zone => (index? i 16).map (fun z => encodeZone t.zones[z])
  | .schedule =>
    match index? i 7, index? (i - 7) 16 with
    | some w, _ => some (encodeWeek t.week[w])
    | none, some h => some (encodeHoliday t.holidays[h])
    | none, none => none
  | .notice => (index? i 324).map (fun src => encodeNotice t.notices[src])

end Sys2Proof.Machine
end

