-- ==== Sys2Proof/Machine/Resets.lean ====
section
/-! DEFINITION. Resets (5.7, 12.6): what each does to the store, the reload with every unit's reset values, and the ends
of store writes, which move a reset on. -/

namespace Sys2Proof.Machine

/-! ### Ports (R14) -/

/-- R14: the port block at a reset, at the rates of the DEVICE entry in force. -/
def State.resetPorts (s : State) : State :=
  { s with ports := .afterReset s.tables.device, marks := Vector.replicate 64 false, owed := none }

/-! ### Reset values of the units -/

/-- The tables that a reload takes (R182). -/
def reloadedTables (m : Image) : Tables := if m.valid then m.tables else factoryTables

/-- The store after a reload (R182, R186 to R189). -/
def Store.reloaded (st : Store) (k : ResetKind) : Store :=
  { st with
    write := .none
    saveWaiting := false
    due := false
    imageFault := !st.image.valid
    ckptFault := if k = .powerOn then false else st.ckptFault }

/-- The clock after a reset (R60). -/
def Clock.afterReset (c : Clock) (k : ResetKind) : Clock := if k = .powerOn then ⟨0, 0, 0, 0, true⟩ else c

/-- The points after a reset (R49). -/
def pointsAfterReset (t : Tables) : Vector PointDyn 64 := Vector.ofFn (fun p => freshPoint t.points[p])

/-- The zones after a reset, the tables and points being reloaded (R79). -/
def zonesAfterReset (s : State) : Vector ZoneDyn 16 :=
  Vector.ofFn (fun z => match s.tables.zones[z] with
    | some r => enteringZone s z r
    | none => .unused)

/-- The catalogue id at an index, 0 when the object is not in use. -/
def idAt (t : Tables) (i : Fin 128) : Quad := (t.objects[i].map (·.id)).getD 0

/-- The accounts after a reset, before L_perm is evaluated (R102 to R104): `old` are the tables and accounts in work
before it. -/
def accountsAfterReset (k : ResetKind) (t : Tables) (slots : Vector Slots 128) (oldTables : Tables) (old : Vector Account 128) :
    Vector Account 128 :=
  Vector.ofFn (fun i => match t.objects[i] with
    | none => .unused
    | some r =>
      if k = .soft then keptSoft t.device.allowance r (idAt oldTables i) old[i]
      else restored t.device.allowance r (slots[i].newest.map (·.data)))

/-- The actuators after a reset (R117, R118). -/
def actuatorsAfterReset (k : ResetKind) (t oldTables : Tables) (old : Vector ActDyn 64) : Vector ActDyn 64 :=
  Vector.ofFn (fun a =>
    if k = .soft ∧ sameIdentity oldTables.actuators[a] t.actuators[a] then
      ⟨old[a].requested, old[a].sent, none, .normal, none⟩
    else .unused)

/-- A loop context after a reset, in a state with accounts, phase and stacks at their reset values (R121). -/
def loopAfterReset (k : ResetKind) (s : State) (oldTables : Tables) (a : Fin 64) (c : LoopCtx) : LoopCtx :=
  match spotFields s.tables.actuators[a] with
  | none => .unused
  | some (o, maxLevel, zone) =>
    loopJoined s o zone
      (if k = .soft ∧ sameIdentity oldTables.actuators[a] s.tables.actuators[a] then ⟨min c.u (256 * maxLevel), none, false⟩
       else .unused)

/-- A zone's blind state after a reset (R121). -/
def blindAfterReset (k : ResetKind) (r : Option ZoneRec) (b : BlindState) : BlindState :=
  match r with
  | some r => if k = .soft then ⟨min b.cap r.blindMax, 0⟩ else ⟨0, 0⟩
  | none => ⟨0, 0⟩

/-! ### The reload -/

/-- First part of the reload: store, tables, ports, responder, clock, phase, stacks, points (R14, R49, R60, R167, R170,
R174, R182). -/
def State.reloadTables (s : State) (k : ResetKind) : State :=
  let tables := reloadedTables s.store.image
  let clock := s.clock.afterReset k
  ({ s with
    tables, clock
    store := s.store.reloaded k
    phase := phaseOf tables clock
    heldPhase := phaseOf tables clock
    overrides := Vector.replicate 16 []
    points := pointsAfterReset tables
    load := none
    save := none
    noticed := if k = .soft then s.noticed else [] } : State).resetPorts

/-- Second part: zones (R79), accounts with L_perm (R102 to R104), actuators (R117, R118), step flags (R152). -/
def State.reloadUnits (s : State) (k : ResetKind) (old : State) : State :=
  let t := { s with zones := zonesAfterReset s }
  let u := { t with
    accounts := accountsAfterReset k t.tables t.store.slots old.tables old.accounts
    actuators := actuatorsAfterReset k t.tables old.tables old.actuators
    flags := Vector.replicate 64 false }
  u.setAccounts (mapAccounts u (fun r x => x.evaluated u r))

/-- Third part: loops and blinds, which read the accounts and the light modes (R121). -/
def State.reloadCaps (s : State) (k : ResetKind) (old : State) : State :=
  { s with
    loops := Vector.ofFn (fun a => loopAfterReset k s old.tables a old.loops[a])
    blinds := Vector.ofFn (fun z => blindAfterReset k s.tables.zones[z] old.blinds[z]) }

/-- Every unit takes its reset values. -/
def State.resetValues (s : State) (k : ResetKind) : State := ((s.reloadTables k).reloadUnits k s).reloadCaps k s

/-- The edges that a reset gives: the conditions before and after it; a power-on reset finds none holding (R47, R59,
R70, R73, R99, R100, R103, R115, R180, R186). -/
def resetEdges (k : ResetKind) (before after : State) : List (Fin 324 × Edge) :=
  (List.finRange 324).flatMap (fun src =>
    edgesOf src (if k = .powerOn then false else condition before src) (condition after src))

/-- R182, R187, R188: the reload; the events held for it are taken after it (R60, R103). -/
def State.reload (s : State) (k : ResetKind) : State :=
  let t := s.resetValues k
  s.held.foldl State.take
    { t with resetting := some (.reloaded k), deferred := s.deferred ++ resetEdges k s t, held := [] }

/-! ### Beginning a reset -/

/-- The reset's own checkpoint of R187, second action. -/
def State.startResetCheckpoint (s : State) : State := { s.startCheckpoint with resetting := some .hardCheckpoint }

/-- What every accepted RESET does at once: the ports (R14), the load (R174), the edges and events of this reset. -/
def State.enterReset (s : State) (stage : ResetStage) : State :=
  { s.resetPorts with load := none, resetting := some stage, deferred := [], held := [] }

/-- R187: an accepted RESET HARD. A checkpoint falls due at its start (R184): on a free write path it is the reset's own and
starts at once, and behind a write in progress checkpoint due becomes yes, until the reset's own checkpoint starts. -/
def State.beginHard (s : State) : State :=
  if s.store.write = .none then (s.enterReset .hardWait).startResetCheckpoint else (s.enterReset .hardWait).checkpointDue

/-- R188: a soft reset goes on: a checkpoint in progress or due comes first, then the reload. -/
def State.continueSoft (s : State) : State :=
  if s.store.write = .none then if s.store.due then s.startCheckpoint else s.reload .soft else s

/-- R188: an accepted RESET SOFT. -/
def State.beginSoft (s : State) : State := (s.enterReset .softWait).continueSoft

/-- R188, R189: a power-on reset, from its beginning to its reload. -/
def State.powerOn (s : State) (written torn : List (Fin 128)) : State :=
  ({ s with store := s.store.stopped written torn, deferred := [], held := [] } : State).reload .powerOn

/-! ### Ends of store writes (R183, R185, R187, R188) -/

/-- What follows on a write path just freed. -/
def State.afterWrite (s : State) : State :=
  match s.resetting with
  | none => s.startWaiting
  | some (.reloaded _) => s.startWaiting
  | some .hardWait => s.startResetCheckpoint
  | some .hardCheckpoint => s.reload .hard
  | some .softWait => s.continueSoft

/-- R185: the end of a checkpoint write. -/
def State.endCheckpoint (s : State) (bad : List (Fin 128)) : State :=
  match s.store.write with
  | .checkpoint copy => (s.moveStore (s.store.afterCheckpoint copy bad)).afterWrite
  | .save _ => s
  | .none => s

/-- A REPLY frame (R168, R190). -/
def replyFrame (node : Word) (channel : Byte) (nameAndTag : List Byte) (st : Status) (data : List Byte) : List Byte :=
  buildFrame .reply node channel (nameAndTag ++ [st.code] ++ data)

/-- R168, R183: the REPLY to SAVE_CONFIG. -/
def State.replySave (s : State) (equal : Bool) : State :=
  match s.save with
  | none => s
  | some r => { s.offer .b (.reply (replyFrame r.node r.channel ([0x51] ++ be16 r.tag) (if equal then .ok else .storeFault) [])) with
      save := none }

/-- R183: the end of a save. -/
def State.endSave (s : State) (equal : Bool) : State :=
  match s.store.write with
  | .save copy => ((s.moveStore (s.store.afterSave copy equal)).replySave equal).afterWrite
  | .checkpoint _ => s
  | .none => s

/-! ### Completion (R119, R180, R189) -/

/-- R189: the reset completes. -/
def State.completeReset (s : State) : State :=
  match s.resetting with
  | some (.reloaded _) =>
    let t := s.reevaluateAll (actuatorsWhere s (fun r => r.kind.isLight))
    ({ t with deferred := [], resetting := none } : State).edges (s.deferred ++ [(sourceRestarted, Edge.enter)])
  | some .hardWait => s
  | some .hardCheckpoint => s
  | some .softWait => s
  | none => s

end Sys2Proof.Machine
end

