-- ==== Sys2Proof/Machine/Replies.lean ====
section
/-! DEFINITION. The data of the replies to queries (13.2; R48, R78, R101, R116, R139, R151, R166, R171). -/

namespace Sys2Proof.Machine

/-! ### Encodings -/

/-- An optional value of two bytes (R191). -/
def opt16 : Option Int → List Byte
  | none => [0, 0, 0]
  | some x => 1 :: int16 x

/-- An optional value of four bytes (R191). -/
def opt32 : Option Int → List Byte
  | none => [0, 0, 0, 0, 0]
  | some x => 1 :: int32 x

/-- An optional number of one byte (R191). -/
def opt8 : Option Nat → List Byte
  | none => [0, 0]
  | some n => 1 :: num8 n

/-- Codes of a phase (13.2). -/
def Phase.code : Phase → Nat
  | .open => 1
  | .closed => 2

/-- Codes of a light mode (13.2). -/
def LightMode.code : LightMode → Nat
  | .open => 1
  | .closed => 2
  | .inspect => 3
  | .dark => 4

/-- Codes of a measurement point's state (13.2). -/
def MeasState.code : MeasState → Nat
  | .warming => 1
  | .valid => 2
  | .stale => 3
  | .suspect => 4

/-- Codes of a presence point's state (13.2). -/
def PresState.code : PresState → Nat
  | .stale => 3
  | .active => 5
  | .stuck => 6

/-- Codes of a condition machine's state (13.2). -/
def CondState.code : CondState → Nat
  | .unknown => 0
  | .inBand => 1
  | .drift => 2
  | .excursion => 3
  | .recovering => 4

/-- Codes of a recorded side (13.2). -/
def sideCode : Option Side → Nat
  | none => 0
  | some .high => 1
  | some .low => 2

/-- Codes of an object's state (13.2). -/
def ObjState.code : ObjState → Nat
  | .unused => 0
  | .pacing => 1
  | .exhausted => 2

/-- Codes of an actuator's state (13.2). -/
def ActState.code : ActState → Nat
  | .normal => 0
  | .await => 1
  | .fault => 2

/-- Codes of an override kind (13.2). -/
def OverrideBody.code : OverrideBody → Nat
  | .inspection _ _ => 1
  | .event _ _ => 2
  | .dark _ => 3
  | .climateHold => 4

/-- Codes of a load's step (13.2). -/
def stepCode (up : Bool) : Byte := if up then 0x01 else 0xFF

/-! ### QUERY_DEVICE (R171) -/

/-- The load context as a reply gives it, zero when closed. -/
def loadData : Option LoadCtx → List Byte
  | none => cleared 6
  | some c => num8 c.table.code ++ num16 c.next ++ [stepCode c.up] ++ num16 c.remaining

/-- R171. -/
def deviceData (s : State) : List Byte :=
  num16 0x0103 ++ be16 s.tables.device.ownNode ++ num16 s.clock.day ++ num8 s.clock.dow ++ num16 s.clock.minute ++
    num8 s.clock.second ++
    num8 (flagBit s.clock.unset 1 + flagBit s.store.fault 2 + flagBit s.save.isSome 4 + flagBit s.load.isSome 8) ++
    loadData s.load ++ num16 s.noticed.length

/-! ### QUERY_POINT (R48) -/

/-- R48: state; reported value; Y; reported held value; last plausible raw value; error count; run count; reading. -/
def pointData (d : PointDyn) (raw : Bool) : List Byte :=
  match d with
  | .unused => num8 0 ++ opt16 none ++ opt32 none ++ opt16 none ++ opt16 none ++ num8 0 ++ num8 0 ++ num8 0
  | .meas d =>
    num8 d.state.code ++ opt16 (if raw then none else d.y.map reported) ++ opt32 (if raw then none else d.y) ++
      opt16 (d.held.map reported) ++ opt16 (if raw then d.lastRaw else none) ++ num8 d.errors ++ num8 d.run ++ num8 0
  | .pres d =>
    num8 d.state.code ++ opt16 none ++ opt32 none ++ opt16 none ++ opt16 none ++ num8 0 ++ num8 0 ++ flag8 d.reading

/-! ### QUERY_ACTUATOR (R116, R139, R151) -/

/-- The cap of an actuator in use (R116, R139, R151). -/
def capReported (s : State) (a : Fin 64) (r : ActRec) : Option Int :=
  match r.kind with
  | .spot _ _ _ _ _ => some (capOf s.loops[a].u : Int)
  | .blind _ _ => some (s.blinds[r.zone].cap : Int)
  | .rhSp _ => targetOf s a r
  | .tempSp _ => targetOf s a r

/-- U, e_prev and loop state: those of the loop of a SPOT actuator, zero and none for another (R139). -/
def loopData (s : State) (a : Fin 64) (r : ActRec) : List Byte :=
  if r.kind.isSpot then num32 s.loops[a].u ++ opt16 s.loops[a].ePrev ++ flag8 s.loops[a].running
  else num32 0 ++ opt16 none ++ flag8 false

/-- Step flag and holds: those of a setpoint actuator, zero for another (R151). -/
def setpointData (s : State) (a : Fin 64) (r : ActRec) : List Byte :=
  if r.kind.isLight then num8 0 ++ num8 0
  else flag8 s.flags[a] ++ num8 (flagBit (rateHeld s r) 1 + flagBit (holdOf s.overrides[r.zone]) 2)

/-- The feedback timer as a reply gives it. -/
def timerData (t : Option Nat) : List Byte := opt16 (t.map (fun n => (n : Int)))

/-- R116. The code of the item in use is log 16. -/
def actuatorData (s : State) (a : Fin 64) (feedbackView : Bool) : List Byte :=
  match s.tables.actuators[a] with
  | none =>
    num8 0 ++ num8 0 ++ num8 0 ++ opt16 none ++ opt16 none ++ opt16 none ++ opt16 none ++ flag8 s.marks[a] ++ opt16 none ++
      num32 0 ++ opt16 none ++ num8 0 ++ num8 0 ++ num8 0
  | some r =>
    let d := s.actuators[a]
    num8 1 ++ num8 r.kind.code ++ num8 d.state.code ++ opt16 d.requested ++ opt16 (if feedbackView then d.feedback else d.sent) ++
      opt16 (capReported s a r) ++ opt16 (effectiveLevel s a r) ++ flag8 s.marks[a] ++ timerData d.timer ++ loopData s a r ++
      setpointData s a r

/-! ### QUERY_OBJECT (R101) -/

/-- R101. -/
def objectData (s : State) (i : Fin 128) : List Byte :=
  let x := s.accounts[i]
  be32 (idAt s.tables i) ++ num8 x.state.code ++ num32 x.before ++ num32 x.today ++ num16 x.days ++ num32 x.allowance ++
    num32 x.lastPeriod ++ num16 x.lPerm ++
    num8 (flagBit x.estimated 1 + flagBit x.doseLost 2 + flagBit x.uvHigh 4)

/-! ### QUERY_ZONE (R78, R139, R166) -/

/-- State, side and hold counter of a condition machine. -/
def machineData (m : CondMachine) : List Byte := num8 m.state.code ++ num8 (sideCode m.side) ++ num8 m.hold

/-- A stack entry in a reply (13.2). -/
def overrideData (e : Override) : List Byte :=
  num8 e.body.code ++ [e.tag] ++ num8 (e.expiry.getD 0) ++ num16 (e.body.level.getD 0) ++ num16 (e.body.saved.getD 0xFFFF)

/-- R78, R139, R166. The codes of the items in use, RATE_HOLD and climate hold are log 16. -/
def zoneData (s : State) (z : Fin 16) : List Byte :=
  let d := s.zones[z]
  let stack := s.overrides[z]
  flag8 s.tables.zones[z].isSome ++ opt16 d.rhEst ++ opt16 d.tempEst ++ machineData d.rh ++ machineData d.temp ++
    opt16 (d.rate.map (fun n => (n : Int))) ++ flag8 d.rateHold ++ flag8 d.present ++ opt8 (d.absence.map (ceilDiv · 60)) ++
    num16 s.blinds[z].cap ++ num8 s.blinds[z].reopen ++ num8 (lightMode s z).code ++ num8 s.heldPhase.code ++
    opt16 ((levelOf stack).map (fun n => (n : Int))) ++ flag8 (holdOf stack) ++ num8 stack.length ++ stack.flatMap overrideData

end Sys2Proof.Machine
end

