-- ==== Sys2Proof/Machine/Requests.lean ====
section
/-! DEFINITION. What each request comes to: its checks in the order of R169 and of its own rule, its effects, its status
and its data. -/

namespace Sys2Proof.Machine

/-- What a request comes to: the state its effects leave, and the status and data of its REPLY. -/
abbrev Answer := State × Status × List Byte

/-- A request refused: no state changes (R169). -/
def refuse (s : State) (st : Status) : Answer := (s, st, [])

/-- A request of the busy set is refused while a SAVE is in flight (R170). -/
def unlessBusy (s : State) (a : Answer) : Answer := if s.save.isSome then refuse s .busy else a

/-! ### Queries -/

/-- R171. -/
def answerDevice (s : State) (_ : List Byte) : Answer := (s, .ok, deviceData s)

/-- R48: 1 is SMOOTHED and 2 is RAW; only a measurement point examines the source. -/
def sourceOk (d : PointDyn) (source : Nat) : Bool :=
  match d with
  | .meas _ => source == 1 || source == 2
  | .pres _ => true
  | .unused => true

/-- R48. -/
def answerPoint (s : State) (ps : List Byte) : Answer :=
  if ps.length < 2 then refuse s .malformed else
  match index? (nat8At ps 0) 64 with
  | none => refuse s .outOfRange
  | some p =>
    if sourceOk s.points[p] (nat8At ps 1) then (s, .ok, pointData s.points[p] (nat8At ps 1 == 2)) else refuse s .outOfRange

/-- R116: 1 is SENT and 2 is FEEDBACK. -/
def answerActuator (s : State) (ps : List Byte) : Answer :=
  if ps.length < 2 then refuse s .malformed else
  match index? (nat8At ps 0) 64 with
  | none => refuse s .outOfRange
  | some a =>
    if s.tables.actuators[a].isNone || nat8At ps 1 == 1 || nat8At ps 1 == 2 then
      (s, .ok, actuatorData s a (nat8At ps 1 == 2))
    else refuse s .outOfRange

/-- R101. -/
def answerObject (s : State) (ps : List Byte) : Answer :=
  if ps.length < 1 then refuse s .malformed else
  match index? (nat8At ps 0) 128 with
  | none => refuse s .outOfRange
  | some i => (s, .ok, objectData s i)

/-- R78. -/
def answerZone (s : State) (ps : List Byte) : Answer :=
  if ps.length < 1 then refuse s .malformed else
  match index? (nat8At ps 0) 16 with
  | none => refuse s .outOfRange
  | some z => (s, .ok, zoneData s z)

/-! ### SET_TIME -/

/-- Ranges of the clock (04 section 4.1). -/
def Clock.inRange (c : Clock) : Bool :=
  decide (c.day ≤ 65535) && decide (c.dow ≤ 6) && decide (c.minute ≤ 1439) && decide (c.second ≤ 59)

/-- The clock that the parameters of SET_TIME spell (13.2). -/
def clockOf (ps : List Byte) : Clock := ⟨nat16At ps 0, nat8At ps 2, nat16At ps 3, nat8At ps 5, false⟩

/-- R53. -/
def answerSetTime (s : State) (ps : List Byte) : Answer :=
  if ps.length < 6 then refuse s .malformed else
  if (clockOf ps).inRange then
    (s.setTime (clockOf ps), .ok, ps.take 6 ++ num16 (dayDifference s.clock (clockOf ps).day))
  else refuse s .outOfRange

/-! ### Table loads -/

/-- The step a code names, if any (13.2). -/
def stepOfCode (c : Byte) : Option Bool := if c = 0x01 then some true else if c = 0xFF then some false else none

/-- R172: every index the load will reach lies inside the table. -/
def loadFits (size start count : Nat) (up : Bool) : Bool :=
  decide (start < size) && decide (0 < count) && (if up then decide (start + (count - 1) < size) else decide (count - 1 ≤ start))

/-- R172. -/
def answerLoadOpen (s : State) (ps : List Byte) : Answer :=
  unlessBusy s <|
  if ps.length < 6 then refuse s .malformed else
  if s.load.isSome then refuse s .loadAlreadyOpen else
  match tableOfCode (nat8At ps 0), stepOfCode (byteAt ps 3) with
  | some table, some up =>
    if loadFits table.size (nat16At ps 1) (nat16At ps 4) up then
      (s.setLoad (some ⟨table, nat16At ps 1, up, nat16At ps 4⟩), .ok, ps.take 6)
    else refuse s .outOfRange
  | _, _ => refuse s .outOfRange

/-- The load context after a write (R173). -/
def LoadCtx.moved (c : LoadCtx) : Option LoadCtx :=
  if c.remaining ≤ 1 then none
  else some { c with next := if c.up then c.next + 1 else c.next - 1, remaining := c.remaining - 1 }

/-- R173. With no load open the answer is LOAD_NOT_OPEN, also where no entry byte comes: the entry's length is the open
table's, so there is none to miss. DESIGN CHOICE, log 11. -/
def answerLoadEntry (s : State) (ps : List Byte) : Answer :=
  unlessBusy s <|
  match s.load with
  | none => refuse s .loadNotOpen
  | some c =>
    match s.writeEntry c.table c.next ps with
    | .error st => refuse s st
    | .ok t => (t.setLoad c.moved, .ok, num16 c.next ++ num16 (c.remaining - 1))

/-- R174. -/
def answerLoadAbort (s : State) (_ : List Byte) : Answer :=
  match s.load with
  | none => refuse s .loadNotOpen
  | some c => (s.setLoad none, .ok, num8 c.table.code ++ num16 c.next ++ num16 c.remaining)

/-- R175. -/
def answerReadEntry (s : State) (ps : List Byte) : Answer :=
  if ps.length < 3 then refuse s .malformed else
  match (tableOfCode (nat8At ps 0)).bind (fun t => readEntry s.tables t (nat16At ps 1)) with
  | some bytes => (s, .ok, bytes)
  | none => refuse s .outOfRange

/-! ### Overrides -/

/-- What the eight parameter bytes of OVERRIDE_PUSH hold (13.2). -/
structure PushParams where
  zone : Nat
  kind : Nat
  tag : Byte
  /-- Presence byte and value of the expiry. -/
  expiryFlag : Nat
  expiry : Nat
  /-- Presence byte and value of the level. -/
  levelFlag : Nat
  level : Nat
  deriving DecidableEq, Repr

/-- The parameters of OVERRIDE_PUSH. -/
def pushParams (ps : List Byte) : PushParams :=
  ⟨nat8At ps 0, nat8At ps 1, byteAt ps 2, nat8At ps 3, nat8At ps 4, nat8At ps 5, nat16At ps 6⟩

/-- R157, first: a level missing for INSPECTION or EVENT, or given for DARK or CLIMATE_HOLD. -/
def PushParams.malformed (x : PushParams) : Bool :=
  ((x.kind == 1 || x.kind == 2) && x.levelFlag == 0) || ((x.kind == 3 || x.kind == 4) && x.levelFlag == 1)

/-- R157, second, and R191 for the presence bytes. -/
def PushParams.outOfRange (x : PushParams) : Bool :=
  decide (16 ≤ x.zone) || !within 1 4 x.kind || x.tag == 0 || decide (2 ≤ x.expiryFlag) || decide (2 ≤ x.levelFlag) ||
    (x.expiryFlag == 1 && x.expiry == 0) || (x.kind == 1 && !within 50 2000 x.level) || (x.kind == 2 && !within 1 1000 x.level)

/-- The entry a push appends, with the blind cap of the moment (R158). -/
def PushParams.entry (x : PushParams) (cap : Nat) : Override where
  body :=
    if x.kind = 1 then .inspection x.level cap
    else if x.kind = 2 then .event x.level cap
    else if x.kind = 3 then .dark cap
    else .climateHold
  tag := x.tag
  expiry := if x.expiryFlag = 1 then some (min x.expiry 240) else none

/-- R157, R158. -/
def answerPush (s : State) (ps : List Byte) : Answer :=
  if ps.length < 8 || (pushParams ps).malformed then refuse s .malformed else
  if (pushParams ps).outOfRange then refuse s .outOfRange else
  match index? (pushParams ps).zone 16 with
  | none => refuse s .outOfRange
  | some z =>
    if s.tables.zones[z].isNone then refuse s .notInUse else
    if 4 ≤ s.overrides[z].length then refuse s .stackFull else
    let t := s.changeStack z (s.overrides[z] ++ [(pushParams ps).entry s.blinds[z].cap]) none
    (t, .ok, num8 t.overrides[z].length ++ num8 (lightMode t z).code ++ flag8 (holdOf t.overrides[z]))

/-- Removal of one entry of a zone's stack as one event (R162). -/
def State.removeEntry (s : State) (z : Fin 16) (i : Nat) : State :=
  s.changeStack z (removeAt s.overrides[z] i).1 (removeAt s.overrides[z] i).2

/-- R159. -/
def answerPop (s : State) (ps : List Byte) : Answer :=
  if ps.length < 2 then refuse s .malformed else
  match index? (nat8At ps 0) 16 with
  | none => refuse s .outOfRange
  | some z =>
    match s.overrides[z].getLast? with
    | none => refuse s .stackEmpty
    | some e =>
      if byteAt ps 1 = 0 ∨ byteAt ps 1 = e.tag then
        let t := s.removeEntry z (s.overrides[z].length - 1)
        (t, .ok, overrideData e ++ num8 (lightMode t z).code)
      else refuse s .notOwner

/-- R160: the position of the topmost entry that carries a tag. -/
def positionOf (l : List Override) (tag : Byte) : Option Nat := (positionsDown l (·.tag == tag)).head?

/-- R160. -/
def answerCancel (s : State) (ps : List Byte) : Answer :=
  if ps.length < 2 then refuse s .malformed else
  match index? (nat8At ps 0) 16 with
  | none => refuse s .outOfRange
  | some z =>
    if byteAt ps 1 = 0 then refuse s .outOfRange else
    match positionOf s.overrides[z] (byteAt ps 1) with
    | none => refuse s .notFound
    | some i =>
      let t := s.removeEntry z i
      (t, .ok, ((s.overrides[z][i]?).map overrideData).getD [] ++ num8 i ++ num8 (lightMode t z).code)

/-- R161. -/
def answerClear (s : State) (ps : List Byte) : Answer :=
  if ps.length < 1 then refuse s .malformed else
  match index? (nat8At ps 0) 16 with
  | none => refuse s .outOfRange
  | some z =>
    let r := removeAll s.overrides[z] (positionsDown s.overrides[z] (fun _ => true))
    (s.changeStack z r.1 r.2, .ok, num8 s.overrides[z].length)

/-! ### Dose accounts -/

/-- A request that replaces the account of an object in use (R91, R92). -/
def answerAccount (s : State) (i : Fin 128) (f : ObjectRec → Account → Account) : Answer :=
  match s.tables.objects[i] with
  | none => refuse s .notInUse
  | some r =>
    let t := s.commitAccount i (f r s.accounts[i])
    (t, .ok, objectData t i)

/-- R91. -/
def answerPeriodStart (s : State) (ps : List Byte) : Answer :=
  unlessBusy s <|
  if ps.length < 1 then refuse s .malformed else
  match index? (nat8At ps 0) 128 with
  | none => refuse s .outOfRange
  | some i => answerAccount s i (periodStarted s)

/-- R92. -/
def answerDoseSet (s : State) (ps : List Byte) : Answer :=
  unlessBusy s <|
  if ps.length < 5 then refuse s .malformed else
  match index? (nat8At ps 0) 128 with
  | none => refuse s .outOfRange
  | some i => answerAccount s i (fun r x => doseSetTo s r (quadAt ps 1).toNat x)

/-! ### Notices -/

/-- R179. -/
def answerCollect (s : State) (_ : List Byte) : Answer :=
  (s.setNoticed (s.noticed.drop 16), .ok,
    num8 (s.noticed.take 16).length ++ flag8 (decide (16 < s.noticed.length)) ++
      (s.noticed.take 16).flatMap (fun x => num16 x.1.val ++ num8 x.2.code))

/-- A name that is no request's (R169). -/
def answerUnknown (s : State) (_ : List Byte) : Answer := refuse s .unknownRequest

end Sys2Proof.Machine
end

