-- ==== Sys2Proof/Machine/Responder.lean ====
section
/-! DEFINITION. The management responder (11): one request, its REPLY, and the requests without one at their execution. -/

namespace Sys2Proof.Machine

/-- R168: the answer's REPLY, with the own node address of the state in which the request was taken, is offered to B. -/
def State.replied (s : State) (channel : Byte) (nameAndTag : List Byte) (a : Answer) : State :=
  a.1.offer .b (.reply (replyFrame s.tables.device.ownNode channel nameAndTag a.2.1 a.2.2))

/-- R168: one request is executed whole and replied. During a reset it has no effect and no reply (R181). -/
def State.serve (s : State) (name : Byte) (r : Request) (f : State → List Byte → Answer) : State :=
  if s.resetting.isSome then s else s.replied r.channel ([name] ++ be16 r.tag) (f s r.params)

/-! ### SAVE_CONFIG and RESET (R168, R181, R183) -/

/-- R183: an accepted SAVE_CONFIG. -/
def State.acceptSave (s : State) (r : Request) : State :=
  let t := { s with save := some ⟨s.tables.device.ownNode, r.channel, r.tag⟩ }
  if s.store.write = .none then t.startSave else t.setStore { s.store with saveWaiting := true }

/-- R183: SAVE_CONFIG. -/
def State.onSaveConfig (s : State) (r : Request) : State :=
  if s.resetting.isSome then s
  else if s.save.isSome then s.replied r.channel ([0x51] ++ be16 r.tag) (refuse s .busy)
  else s.acceptSave r

/-- The status that refuses a RESET, if any (R169, R170, R181). -/
def resetRefusal (s : State) (ps : List Byte) : Option Status :=
  if s.save.isSome then some .busy
  else if ps.length < 1 then some .malformed
  else if nat8At ps 0 = 1 ∨ nat8At ps 0 = 2 then none
  else some .outOfRange

/-- R181: RESET; 1 is SOFT and 2 is HARD. -/
def State.onReset (s : State) (r : Request) : State :=
  if s.resetting.isSome then s
  else match resetRefusal s r.params with
    | some st => s.replied r.channel ([0x60] ++ be16 r.tag) (refuse s st)
    | none => if nat8At r.params 0 = 1 then s.beginSoft else s.beginHard

/-! ### The requests by name -/

/-- QUERY_DEVICE. -/
def State.onQueryDevice (s : State) (r : Request) : State := s.serve 0x01 r answerDevice

/-- QUERY_POINT. -/
def State.onQueryPoint (s : State) (r : Request) : State := s.serve 0x02 r answerPoint

/-- QUERY_ACTUATOR. -/
def State.onQueryActuator (s : State) (r : Request) : State := s.serve 0x03 r answerActuator

/-- QUERY_OBJECT. -/
def State.onQueryObject (s : State) (r : Request) : State := s.serve 0x04 r answerObject

/-- QUERY_ZONE. -/
def State.onQueryZone (s : State) (r : Request) : State := s.serve 0x05 r answerZone

/-- SET_TIME. -/
def State.onSetTime (s : State) (r : Request) : State := s.serve 0x10 r answerSetTime

/-- LOAD_OPEN. -/
def State.onLoadOpen (s : State) (r : Request) : State := s.serve 0x20 r answerLoadOpen

/-- LOAD_ENTRY. -/
def State.onLoadEntry (s : State) (r : Request) : State := s.serve 0x21 r answerLoadEntry

/-- LOAD_ABORT. -/
def State.onLoadAbort (s : State) (r : Request) : State := s.serve 0x22 r answerLoadAbort

/-- READ_ENTRY. -/
def State.onReadEntry (s : State) (r : Request) : State := s.serve 0x23 r answerReadEntry

/-- OVERRIDE_PUSH. -/
def State.onPush (s : State) (r : Request) : State := s.serve 0x30 r answerPush

/-- OVERRIDE_POP. -/
def State.onPop (s : State) (r : Request) : State := s.serve 0x31 r answerPop

/-- OVERRIDE_CANCEL. -/
def State.onCancel (s : State) (r : Request) : State := s.serve 0x32 r answerCancel

/-- OVERRIDE_CLEAR. -/
def State.onClear (s : State) (r : Request) : State := s.serve 0x33 r answerClear

/-- OBJECT_PERIOD_START. -/
def State.onPeriodStart (s : State) (r : Request) : State := s.serve 0x40 r answerPeriodStart

/-- DOSE_SET. -/
def State.onDoseSet (s : State) (r : Request) : State := s.serve 0x41 r answerDoseSet

/-- COLLECT_NOTICES. -/
def State.onCollect (s : State) (r : Request) : State := s.serve 0x50 r answerCollect

/-- A request with name code `name`; one that names no request is answered UNKNOWN_REQUEST (R169). -/
def State.onRequest (s : State) (name : Byte) (r : Request) : State :=
  match name.toNat with
  | 0x01 => s.onQueryDevice r
  | 0x02 => s.onQueryPoint r
  | 0x03 => s.onQueryActuator r
  | 0x04 => s.onQueryObject r
  | 0x05 => s.onQueryZone r
  | 0x10 => s.onSetTime r
  | 0x20 => s.onLoadOpen r
  | 0x21 => s.onLoadEntry r
  | 0x22 => s.onLoadAbort r
  | 0x23 => s.onReadEntry r
  | 0x30 => s.onPush r
  | 0x31 => s.onPop r
  | 0x32 => s.onCancel r
  | 0x33 => s.onClear r
  | 0x40 => s.onPeriodStart r
  | 0x41 => s.onDoseSet r
  | 0x50 => s.onCollect r
  | 0x51 => s.onSaveConfig r
  | 0x60 => s.onReset r
  | _ => s.serve name r answerUnknown

/-- R169: a MANAGE payload. One too short for a name and a tag is answered MALFORMED, the bytes present echoed and the
missing ones zero. -/
def State.respond (s : State) (channel : Byte) (payload : List Byte) : State :=
  if payload.length < 3 then
    if s.resetting.isSome then s
    else s.replied channel [byteAt payload 0, byteAt payload 1, byteAt payload 2] (refuse s .malformed)
  else s.onRequest (byteAt payload 0) ⟨channel, wordAt payload 1, payload.drop 3⟩

end Sys2Proof.Machine
end

