-- ==== Sys2Proof/Machine/PortUnit.lean ====
section
/-! DEFINITION. The port block (01) and the frame classifier (02): reception, dispatch, relay, transmission. -/

namespace Sys2Proof.Machine

/-! ### Classification (R15 to R20) -/

/-- R15: the kind test. -/
def ClassKind.accepts : ClassKind → FrameKind → Bool
  | .any, _ => true
  | .sample, k => k == .sample
  | .presence, k => k == .presence
  | .feedback, k => k == .feedback
  | .command, k => k == .command

/-- R15: the port test. -/
def ArrivalPort.accepts : ArrivalPort → Port → Bool
  | .b, p => p == .b
  | .g1, p => p == .g1
  | .g2, p => p == .g2
  | .anyG, p => p == .g1 || p == .g2

/-- R17: the data test. -/
def dataTest (mask payload : List Byte) : Bool := (mask.zip payload).any (fun x => x.1 &&& x.2 != 0)

/-- R15 to R17: an entry in use matches a frame that arrived on a port. -/
def ClassEntry.fitsFrame (e : ClassEntry) (kind : FrameKind) (p : Port) (frame : List Byte) : Bool :=
  e.kind.accepts kind && e.port.accepts p &&
    ((frameNode frame ^^^ e.nodeValue) &&& ~~~ e.nodeMask) == 0 &&
    ((frameChannel frame ^^^ e.channelValue) &&& ~~~ e.channelMask) == 0 &&
    (!e.lengthPresent || frameLength frame == e.length.toNat) &&
    (match e.dataMask with
      | none => true
      | some m => dataTest m (framePayload frame))

/-- R18: the deciding entry. -/
def decidingEntry (t : Tables) (kind : FrameKind) (p : Port) (frame : List Byte) : Option ClassEntry :=
  t.classifier.toList.findSome? (fun e => e.bind (fun e => if e.fitsFrame kind p frame then some e else none))

/-- The outcomes of classification (R3, R18). A point comes with the presence value of the entry (R20). -/
inductive Classified where
  | unmatched
  | pass
  | drop
  | point (p : Fin 64) (present : Bool)
  | actuator (a : Fin 64)
  deriving DecidableEq, Repr

/-- R19: the record of point `p` fits a frame kind. -/
def pointFits (t : Tables) (p : Fin 64) (kind : FrameKind) : Bool :=
  match t.points[p] with
  | some (.meas _) => kind == .sample
  | some (.pres _) => kind == .presence
  | none => false

/-- R19: the record of actuator `a` fits a frame kind. -/
def actuatorFits (t : Tables) (a : Fin 64) (kind : FrameKind) : Bool :=
  match t.actuators[a] with
  | some r => kind == .command || (kind == .feedback && r.feedback.isSome)
  | none => false

/-- R18, R19: the outcome for a frame. -/
def classify (t : Tables) (kind : FrameKind) (p : Port) (frame : List Byte) : Classified :=
  match decidingEntry t kind p frame with
  | none => .unmatched
  | some e =>
    match e.target with
    | .pass _ => .pass
    | .drop _ => .drop
    | .toPoint i => if pointFits t i kind then .point i e.presenceIsPresent else .pass
    | .toActuator a => if actuatorFits t a kind then .actuator a else .pass

/-! ### Dispatch (R3 to R5) -/

/-- R5: a frame is relayed, from B to both gallery queues and from a gallery port to B. -/
def State.relay (s : State) (p : Port) (frame : List Byte) : State :=
  match p with
  | .b => (s.offer .g1 (.relayed frame)).offer .g2 (.relayed frame)
  | .g1 => s.offer .b (.relayed frame)
  | .g2 => s.offer .b (.relayed frame)

/-- The two things done with a used frame (R4). -/
inductive UsePart where
  | hand | relay
  deriving DecidableEq, Repr

/-- R4: a frame used by a point is handed to it. -/
def State.handToPoint (s : State) (kind : FrameKind) (i : Fin 64) (present : Bool) (frame : List Byte) : State :=
  if kind = .presence then s.takePresence i present else s.takeSample i (framePayload frame)

/-- R4: a used frame is handed on and relayed, in no given order. -/
def State.useAndRelay (s : State) (p : Port) (frame : List Byte) (hand : State → State) : State :=
  inFreeOrder (fun s (u : UsePart) => match u with
    | .hand => hand s
    | .relay => s.relay p frame) [.hand, .relay] s

/-- R4: the act on an outcome. -/
def State.act (s : State) (kind : FrameKind) (p : Port) (frame : List Byte) : Classified → State
  | .unmatched => s.relay p frame
  | .pass => s.relay p frame
  | .drop => s
  | .point i present => s.useAndRelay p frame (fun s => s.handToPoint kind i present frame)
  | .actuator a =>
    if kind = .command then s.takeCommand a (framePayload frame)
    else s.useAndRelay p frame (fun s => s.takeFeedback a (framePayload frame))

/-- R3: a good MANAGE frame. -/
def State.manageFrame (s : State) (p : Port) (frame : List Byte) : State :=
  if frameNode frame = s.tables.device.ownNode then
    if p = .b then s.respond (frameChannel frame) (framePayload frame) else s
  else s.relay p frame

/-- R2, R3: a complete frame. -/
def State.complete (s : State) (p : Port) (frame : List Byte) : State :=
  if frameGood frame then
    match kindOfCode (byteAt frame 1) with
    | none => s
    | some .manage => s.manageFrame p frame
    | some kind => s.act kind p frame (classify s.tables kind p frame)
  else s

/-! ### Ends of transmission (R8, R9, R12, R13) -/

/-- The bytes of a queued frame. -/
def QEntry.bytes : QEntry → List Byte
  | .relayed f => f
  | .governor _ node channel level => commandFrame node channel level
  | .reply f => f
  | .notice f => f

/-- A rate that waited for the end of the transmission (R13). -/
def State.applyRate (s : State) (p : Port) : State :=
  if (s.port p).rateDue then
    s.setPort p ((s.port p).withRate (match p with
      | .b => s.tables.device.rateB
      | .g1 => s.tables.device.rateG1
      | .g2 => s.tables.device.rateG2))
  else s

/-- R12: the one service of an end of transmission on a gallery port. It is taken at once, unless the very next command is
that service: then it is left owed to it, and nothing comes between. DESIGN CHOICE, log 6. -/
def State.endService (s : State) (g : Gallery) : State :=
  let t := { s with owed := some g }
  if s.pending.head? = some (.sendPendingService g) then t else t.takeService g

/-- Service of the marks of a port; B has none (R8, R9). -/
def State.serviceAt (s : State) : Port → State
  | .b => s
  | .g1 => s.endService .g1
  | .g2 => s.endService .g2

/-- R8: the actuator unit is informed of a completed governor command. -/
def State.toldComplete (s : State) : QEntry → State
  | .governor a _ _ _ => s.completionTold a
  | .relayed _ => s
  | .reply _ => s
  | .notice _ => s

/-- R9: an abandoned governor command marks its actuator. -/
def State.toldAbandoned (s : State) : QEntry → State
  | .governor a _ _ _ => s.setMark a true
  | .relayed _ => s
  | .reply _ => s
  | .notice _ => s

/-- The head entry leaves the queue (R8, R9). -/
def PortState.ended (q : PortState) : PortState := { q with queue := q.queue.drop 1, tx := none, quiet := false }

/-- R8: the transmission of a port completes. -/
def State.completeTransmission (s : State) (p : Port) : State :=
  let q := s.port p
  match q.tx, q.queue with
  | some _, e :: _ => (((s.setPort p q.ended).applyRate p).toldComplete e).serviceAt p
  | _, _ => s

/-- R9: a line fault abandons the transmission of a port. -/
def State.abandonTransmission (s : State) (p : Port) : State :=
  let q := s.port p
  match q.tx, q.queue with
  | some _, e :: _ => (((s.setPort p { q.ended with assembly := .discarding }).applyRate p).toldAbandoned e).serviceAt p
  | _, _ => s

/-- R7: a port may begin to transmit. -/
def PortState.mayStart (q : PortState) : Bool := !q.queue.isEmpty && q.tx.isNone && q.assembly == .idle && q.quiet

/-- R7: a port begins to transmit the head of its queue. -/
def State.startTransmission (s : State) (p : Port) : State :=
  if (s.port p).mayStart then s.setPort p { s.port p with tx := some 0 } else s

/-! ### Reception (R1, R7) -/

/-- What the bytes gathered, with the latest, come to (R1). -/
inductive Gathered where
  | more
  | bad
  | whole
  deriving DecidableEq, Repr

/-- R1: the judgement on the bytes gathered. -/
def gathered (bytes : List Byte) : Gathered :=
  if bytes.length < 6 then .more
  else if 64 < frameLength bytes || (kindOfCode (byteAt bytes 1)).isNone then .bad
  else if 8 + frameLength bytes ≤ bytes.length then .whole
  else .more

/-- The assembly of a port is replaced; a byte stands on its line. -/
def State.setAssembly (s : State) (p : Port) (x : Assembly) : State :=
  s.setPort p { s.port p with assembly := x, quiet := false }

/-- R1: a byte taken by the receive assembly. -/
def State.gather (s : State) (p : Port) (b : Byte) : State :=
  match (s.port p).assembly with
  | .idle => s.setAssembly p (if b = startByte then .assembling [b] else .discarding)
  | .discarding => s.setAssembly p .discarding
  | .assembling bytes =>
    match gathered (bytes ++ [b]) with
    | .more => s.setAssembly p (.assembling (bytes ++ [b]))
    | .bad => s.setAssembly p .discarding
    | .whole => (s.setAssembly p .idle).complete p (bytes ++ [b])

/-- R7: a byte read back during a transmission: byte `n` of the head entry. -/
def State.readBack (s : State) (p : Port) (n : Nat) (b : Byte) : State :=
  let bytes := ((s.port p).queue.head?.map QEntry.bytes).getD []
  if bytes[n]? = some b then
    if n + 1 = bytes.length then s.completeTransmission p
    else s.setPort p { s.port p with tx := some (n + 1), quiet := false }
  else s.abandonTransmission p

/-- R1, R7: a byte on the line of a port. -/
def State.takeByte (s : State) (p : Port) (b : Byte) : State :=
  match (s.port p).tx with
  | some n => s.readBack p n b
  | none => s.gather p b

/-- R1: a silence of at least 2 ms. During a reset the assembly stays DISCARDING (R14). -/
def State.silence (s : State) (p : Port) : State :=
  if s.resetting.isSome then s else s.setPort p { s.port p with assembly := .idle, quiet := true }

/-- R1: a break outside a transmission. In IDLE the state after it is free (log 7). -/
def State.breakReceived (s : State) (p : Port) : State :=
  match (s.port p).assembly with
  | .assembling _ => s.setAssembly p .discarding
  | .discarding => s.setAssembly p .discarding
  | .idle =>
    ({ s with free := s.free + 1 } : State).setAssembly p (if Config.freeChoice s.free % 2 = 0 then .idle else .discarding)

/-- R1, R7: a break on the line of a port. -/
def State.lineBreak (s : State) (p : Port) : State :=
  if (s.port p).tx.isSome then s.abandonTransmission p else s.breakReceived p

end Sys2Proof.Machine
end

