-- ==== Sys2Proof/Machine/LineCommands.lean ====
section
/-! DEFINITION. Meanings of the commands of the three lines (01). -/

namespace Sys2Proof.Machine

/-- FRAME_ARRIVAL (R1 to R5): the bytes of a frame come in one after another. Where they end a transmission, its service
is taken before the next byte. -/
def execFrameArrival (p : Port) (bytes : List Byte) (s : State) : Host.Outcome State Fault Refusal :=
  .next (bytes.foldl (fun s b => s.settled.takeByte p b) s)

/-- LINE_SILENCE (R1). -/
def execLineSilence (p : Port) (s : State) : Host.Outcome State Fault Refusal := .next (s.silence p)

/-- RECEIVE_BREAK (R1, R7). -/
def execReceiveBreak (p : Port) (s : State) : Host.Outcome State Fault Refusal := .next (s.lineBreak p)

/-- TRANSMISSION_START (R7). -/
def execTransmissionStart (p : Port) (s : State) : Host.Outcome State Fault Refusal := .next (s.startTransmission p)

/-- TRANSMISSION_COMPLETE (R8). -/
def execTransmissionComplete (p : Port) (s : State) : Host.Outcome State Fault Refusal := .next (s.completeTransmission p)

/-- TRANSMISSION_ABANDON (R9). -/
def execTransmissionAbandon (p : Port) (s : State) : Host.Outcome State Fault Refusal := .next (s.abandonTransmission p)

/-- SEND_PENDING_SERVICE (R12): the service that the end of transmission before it has left to it. -/
def execSendPendingService (g : Gallery) (s : State) : Host.Outcome State Fault Refusal := .next (s.takeService g)

/-- BYTE_RECEIVED (R1, R7). -/
def execByteReceived (p : Port) (byte : Byte) (s : State) : Host.Outcome State Fault Refusal := .next (s.takeByte p byte)

end Sys2Proof.Machine
end

