-- ==== Sys2Proof/Machine/RequestCommands.lean ====
section
/-! DEFINITION. Meanings of the management requests (11, 13.2), and of the commands that carry a whole payload. -/

namespace Sys2Proof.Machine

/-- UNKNOWN_REQUEST (R169). -/
def execUnknownRequest (channel : Byte) (payload : List Byte) (s : State) : Host.Outcome State Fault Refusal :=
  .next (s.respond channel payload)

/-- QUERY_DEVICE (R171). -/
def execQueryDevice (r : Request) (s : State) : Host.Outcome State Fault Refusal := .next (s.onQueryDevice r)

/-- QUERY_POINT (R48). -/
def execQueryPoint (r : Request) (s : State) : Host.Outcome State Fault Refusal := .next (s.onQueryPoint r)

/-- QUERY_ACTUATOR (R116). -/
def execQueryActuator (r : Request) (s : State) : Host.Outcome State Fault Refusal := .next (s.onQueryActuator r)

/-- QUERY_OBJECT (R101). -/
def execQueryObject (r : Request) (s : State) : Host.Outcome State Fault Refusal := .next (s.onQueryObject r)

/-- QUERY_ZONE (R78). -/
def execQueryZone (r : Request) (s : State) : Host.Outcome State Fault Refusal := .next (s.onQueryZone r)

/-- SET_TIME (R53). -/
def execSetTime (r : Request) (s : State) : Host.Outcome State Fault Refusal := .next (s.onSetTime r)

/-- LOAD_OPEN (R172). -/
def execLoadOpen (r : Request) (s : State) : Host.Outcome State Fault Refusal := .next (s.onLoadOpen r)

/-- LOAD_ENTRY (R173). -/
def execLoadEntry (r : Request) (s : State) : Host.Outcome State Fault Refusal := .next (s.onLoadEntry r)

/-- LOAD_ABORT (R174). -/
def execLoadAbort (r : Request) (s : State) : Host.Outcome State Fault Refusal := .next (s.onLoadAbort r)

/-- READ_ENTRY (R175). -/
def execReadEntry (r : Request) (s : State) : Host.Outcome State Fault Refusal := .next (s.onReadEntry r)

/-- OVERRIDE_PUSH (R158). -/
def execOverridePush (r : Request) (s : State) : Host.Outcome State Fault Refusal := .next (s.onPush r)

/-- OVERRIDE_POP (R159). -/
def execOverridePop (r : Request) (s : State) : Host.Outcome State Fault Refusal := .next (s.onPop r)

/-- OVERRIDE_CANCEL (R160). -/
def execOverrideCancel (r : Request) (s : State) : Host.Outcome State Fault Refusal := .next (s.onCancel r)

/-- OVERRIDE_CLEAR (R161). -/
def execOverrideClear (r : Request) (s : State) : Host.Outcome State Fault Refusal := .next (s.onClear r)

/-- OBJECT_PERIOD_START (R91). -/
def execObjectPeriodStart (r : Request) (s : State) : Host.Outcome State Fault Refusal := .next (s.onPeriodStart r)

/-- DOSE_SET (R92). -/
def execDoseSet (r : Request) (s : State) : Host.Outcome State Fault Refusal := .next (s.onDoseSet r)

/-- COLLECT_NOTICES (R179). -/
def execCollectNotices (r : Request) (s : State) : Host.Outcome State Fault Refusal := .next (s.onCollect r)

/-- SAVE_CONFIG (R183). -/
def execSaveConfig (r : Request) (s : State) : Host.Outcome State Fault Refusal := .next (s.onSaveConfig r)

/-- RESET_HARD (R181, R187): the request RESET with the parameter HARD. -/
def execResetHard (channel : Byte) (tag : Word) (s : State) : Host.Outcome State Fault Refusal :=
  .next (s.onReset ⟨channel, tag, [0x02]⟩)

/-- RESET_SOFT (R181, R188): the request RESET with the parameter SOFT. -/
def execResetSoft (channel : Byte) (tag : Word) (s : State) : Host.Outcome State Fault Refusal :=
  .next (s.onReset ⟨channel, tag, [0x01]⟩)

end Sys2Proof.Machine
end

