-- ==== Sys2Proof/Machine/ResetCommands.lean ====
section
/-! DEFINITION. Meanings of the power-on reset and of the completion of a reset (12.6). -/

namespace Sys2Proof.Machine

/-- POWER_ON_RESET (R188, R189). -/
def execPowerOnReset (written torn : List (Fin 128)) (s : State) : Host.Outcome State Fault Refusal :=
  .next (s.powerOn written torn)

/-- RESET_COMPLETE (R189). -/
def execResetComplete (s : State) : Host.Outcome State Fault Refusal := .next s.completeReset

end Sys2Proof.Machine
end

