-- ==== Sys2Proof/Machine/StoreCommands.lean ====
section
/-! DEFINITION. Meanings of the commands of the store's write path (12). -/

namespace Sys2Proof.Machine

/-- CHECKPOINT_START (R184): a checkpoint due starts on a free write path, after any save that waits. -/
def execCheckpointStart (s : State) : Host.Outcome State Fault Refusal :=
  .next (if s.store.write = .none ∧ s.store.saveWaiting = false ∧ s.store.due = true then s.startCheckpoint else s)

/-- CHECKPOINT_WRITE_END (R185). -/
def execCheckpointWriteEnd (bad : List (Fin 128)) (s : State) : Host.Outcome State Fault Refusal := .next (s.endCheckpoint bad)

/-- SAVE_START (R183): a waiting save starts on a free write path. -/
def execSaveStart (s : State) : Host.Outcome State Fault Refusal :=
  .next (if s.store.write = .none ∧ s.store.saveWaiting = true then s.startSave else s)

/-- SAVE_END (R183). -/
def execSaveEnd (equal : Bool) (s : State) : Host.Outcome State Fault Refusal := .next (s.endSave equal)

end Sys2Proof.Machine
end

