-- ==== Sys2Proof/Machine/TimeCommands.lean ====
section
/-! DEFINITION. Meanings of the commands of the time base: one second, and the expiries of timers that have counted down
to 0 (04, 03, 05, 07; log 2). -/

namespace Sys2Proof.Machine

/-- CLOCK_ADVANCE (R50 to R52). -/
def execClockAdvance (s : State) : Host.Outcome State Fault Refusal := .next s.oneSecond

/-- The stale timer of a measurement point has expired (R40). -/
def State.staleExpiry (s : State) (p : Fin 64) : State :=
  match s.points[p] with
  | .meas d => if d.timer = some 0 then s.moveMeas p (goneStale d) else s
  | .pres _ => s
  | .unused => s

/-- STALE_TIMER_EXPIRY (R40). -/
def execStaleTimerExpiry (p : Fin 64) (s : State) : Host.Outcome State Fault Refusal := .next (s.staleExpiry p)

/-- A presence point at the expiry of its stale timer (R45). -/
def presenceStale (d : PresDyn) : PresDyn :=
  match d.state with
  | .active => { d with state := .stale, stuckTimer := none }
  | .stuck => { d with state := .stale, stuckTimer := none }
  | .stale => d

/-- The stale timer of a presence point has expired (R45). -/
def State.presenceStaleExpiry (s : State) (p : Fin 64) : State :=
  match s.tables.points[p], s.points[p] with
  | some (.pres r), .pres d => if d.staleTimer = some 0 then s.movePres p r.zone (presenceStale d) else s
  | _, _ => s

/-- PRESENCE_STALE_EXPIRY (R45). -/
def execPresenceStaleExpiry (p : Fin 64) (s : State) : Host.Outcome State Fault Refusal := .next (s.presenceStaleExpiry p)

/-- The stuck timer of a presence point has expired (R44). -/
def State.stuckExpiry (s : State) (p : Fin 64) : State :=
  match s.tables.points[p], s.points[p] with
  | some (.pres r), .pres d =>
    if d.stuckTimer = some 0 ∧ d.state = .active then s.movePres p r.zone { d with state := .stuck, stuckTimer := none } else s
  | _, _ => s

/-- STUCK_TIMER_EXPIRY (R44). -/
def execStuckTimerExpiry (p : Fin 64) (s : State) : Host.Outcome State Fault Refusal := .next (s.stuckExpiry p)

/-- The absence timer of a zone has expired (R75). -/
def State.absenceExpiry (s : State) (z : Fin 16) : State :=
  if s.tables.zones[z].isSome ∧ s.zones[z].absence = some 0 then s.setPresence z false none else s

/-- ABSENCE_TIMER_EXPIRY (R75). -/
def execAbsenceTimerExpiry (z : Fin 16) (s : State) : Host.Outcome State Fault Refusal := .next (s.absenceExpiry z)

/-- The feedback timer of an actuator has expired (R115). -/
def State.feedbackExpiry (s : State) (a : Fin 64) : State :=
  if s.actuators[a].state = .await ∧ s.actuators[a].timer = some 0 then
    s.moveActuator a { s.actuators[a] with state := .fault }
  else s

/-- FEEDBACK_TIMER_EXPIRY (R115). -/
def execFeedbackTimerExpiry (a : Fin 64) (s : State) : Host.Outcome State Fault Refusal := .next (s.feedbackExpiry a)

end Sys2Proof.Machine
end

