-- ==== Sys2Proof/Machine/Dispatch.lean ====
section
/-! DEFINITION. One arm per command. -/

namespace Sys2Proof.Machine

/-- The effect of a command on everything but the queue. -/
def exec (i : Instr) (s : State) : Host.Outcome State Fault Refusal :=
  match i with
  | .frameArrival p bytes => Sys2Proof.Machine.execFrameArrival p bytes s
  | .lineSilence p => Sys2Proof.Machine.execLineSilence p s
  | .receiveBreak p => Sys2Proof.Machine.execReceiveBreak p s
  | .transmissionStart p => Sys2Proof.Machine.execTransmissionStart p s
  | .transmissionComplete p => Sys2Proof.Machine.execTransmissionComplete p s
  | .transmissionAbandon p => Sys2Proof.Machine.execTransmissionAbandon p s
  | .sendPendingService g => Sys2Proof.Machine.execSendPendingService g s
  | .clockAdvance => Sys2Proof.Machine.execClockAdvance s
  | .checkpointStart => Sys2Proof.Machine.execCheckpointStart s
  | .checkpointWriteEnd bad => Sys2Proof.Machine.execCheckpointWriteEnd bad s
  | .saveStart => Sys2Proof.Machine.execSaveStart s
  | .saveEnd equal => Sys2Proof.Machine.execSaveEnd equal s
  | .staleTimerExpiry p => Sys2Proof.Machine.execStaleTimerExpiry p s
  | .presenceStaleExpiry p => Sys2Proof.Machine.execPresenceStaleExpiry p s
  | .stuckTimerExpiry p => Sys2Proof.Machine.execStuckTimerExpiry p s
  | .absenceTimerExpiry z => Sys2Proof.Machine.execAbsenceTimerExpiry z s
  | .feedbackTimerExpiry a => Sys2Proof.Machine.execFeedbackTimerExpiry a s
  | .unknownRequest channel payload => Sys2Proof.Machine.execUnknownRequest channel payload s
  | .queryDevice r => Sys2Proof.Machine.execQueryDevice r s
  | .queryPoint r => Sys2Proof.Machine.execQueryPoint r s
  | .queryActuator r => Sys2Proof.Machine.execQueryActuator r s
  | .queryObject r => Sys2Proof.Machine.execQueryObject r s
  | .queryZone r => Sys2Proof.Machine.execQueryZone r s
  | .setTime r => Sys2Proof.Machine.execSetTime r s
  | .loadOpen r => Sys2Proof.Machine.execLoadOpen r s
  | .loadEntry r => Sys2Proof.Machine.execLoadEntry r s
  | .loadAbort r => Sys2Proof.Machine.execLoadAbort r s
  | .readEntry r => Sys2Proof.Machine.execReadEntry r s
  | .overridePush r => Sys2Proof.Machine.execOverridePush r s
  | .overridePop r => Sys2Proof.Machine.execOverridePop r s
  | .overrideCancel r => Sys2Proof.Machine.execOverrideCancel r s
  | .overrideClear r => Sys2Proof.Machine.execOverrideClear r s
  | .objectPeriodStart r => Sys2Proof.Machine.execObjectPeriodStart r s
  | .doseSet r => Sys2Proof.Machine.execDoseSet r s
  | .collectNotices r => Sys2Proof.Machine.execCollectNotices r s
  | .saveConfig r => Sys2Proof.Machine.execSaveConfig r s
  | .resetHard channel tag => Sys2Proof.Machine.execResetHard channel tag s
  | .resetSoft channel tag => Sys2Proof.Machine.execResetSoft channel tag s
  | .powerOnReset written torn => Sys2Proof.Machine.execPowerOnReset written torn s
  | .resetComplete => Sys2Proof.Machine.execResetComplete s
  | .byteReceived p byte => Sys2Proof.Machine.execByteReceived p byte s

end Sys2Proof.Machine
end

