-- ==== Sys2Proof/WellFormed.lean ====
section
/-! DEFINITION. Which commands the line and the responder can hand to the block. The machine runs the others too; the
checks say what a sender may rely on. -/

namespace Sys2Proof

/-- The request codes of 13.2. -/
def requestCodes : List Byte :=
  [0x01, 0x02, 0x03, 0x04, 0x05, 0x10, 0x20, 0x21, 0x22, 0x23, 0x30, 0x31, 0x32, 0x33, 0x40, 0x41, 0x50, 0x51, 0x60]

/-- A payload holds at most 64 bytes (13.1), three of which are the name and the tag. -/
def Request.wf (r : Request) : Bool := r.params.length ≤ 61

/-- A payload that the row UNKNOWN_REQUEST takes (R169): at most 64 bytes, and too short for a name and a tag or
with a name that is no request's. -/
def unknownPayload (payload : List Byte) : Bool :=
  payload.length ≤ 64 && (payload.length < 3 || !(requestCodes.contains (payload.headD 0)))

/-- The bytes of a frame (13.1): 8 to 72 bytes, opened by the start byte, as many as the Length field says. -/
def frameShape (bytes : List Byte) : Bool :=
  bytes.length ≤ 72 && bytes.headD 0 == 0x7E && bytes.length == 8 + (bytes.getD 5 0).toNat

/-- Well-formedness of a command. Indices are bounded by their types. -/
def Instr.wf : Instr → Bool
  | .frameArrival _ bytes => frameShape bytes
  | .lineSilence _ => true
  | .receiveBreak _ => true
  | .transmissionStart _ => true
  | .transmissionComplete _ => true
  | .transmissionAbandon _ => true
  | .sendPendingService _ => true
  | .clockAdvance => true
  | .checkpointStart => true
  | .checkpointWriteEnd bad => bad.eraseDups.length == bad.length
  | .saveStart => true
  | .saveEnd _ => true
  | .staleTimerExpiry _ => true
  | .presenceStaleExpiry _ => true
  | .stuckTimerExpiry _ => true
  | .absenceTimerExpiry _ => true
  | .feedbackTimerExpiry _ => true
  | .unknownRequest _ payload => unknownPayload payload
  | .queryDevice r => r.wf
  | .queryPoint r => r.wf
  | .queryActuator r => r.wf
  | .queryObject r => r.wf
  | .queryZone r => r.wf
  | .setTime r => r.wf
  | .loadOpen r => r.wf
  | .loadEntry r => r.wf
  | .loadAbort r => r.wf
  | .readEntry r => r.wf
  | .overridePush r => r.wf
  | .overridePop r => r.wf
  | .overrideCancel r => r.wf
  | .overrideClear r => r.wf
  | .objectPeriodStart r => r.wf
  | .doseSet r => r.wf
  | .collectNotices r => r.wf
  | .saveConfig r => r.wf
  | .resetHard _ _ => true
  | .resetSoft _ _ => true
  | .powerOnReset written torn => !(written.any (torn.contains ·))
  | .resetComplete => true
  | .byteReceived _ _ => true

end Sys2Proof
end

