-- ==== Sys2Proof/Safety.lean ====
section
/-! DEFINITION. What the manual promises of every state: the invariants that the statements say each step keeps. -/

namespace Sys2Proof.Safety

open Sys2Proof.Machine

/-! ### Queues (R6, 01 section 1.3) -/

/-- The classes of frame that enter the queue of a port (01 section 1.3). -/
def classAllowed : Port → QEntry → Bool
  | .b, .relayed _ => true
  | .b, .reply _ => true
  | .b, .notice _ => true
  | .b, .governor _ _ _ _ => false
  | _, .relayed _ => true
  | _, .governor _ _ _ _ => true
  | _, .reply _ => false
  | _, .notice _ => false

/-- R6 for one port: capacity, classes, at most one GOVERNOR entry for an actuator, and an entry in transmission only
when there is a head. -/
def PortSound (p : Port) (q : PortState) : Prop :=
  q.queue.length ≤ capacity p ∧ q.queue.all (classAllowed p) = true ∧
    (∀ a : Fin 64, (q.queue.filter (·.isGovernor a)).length ≤ 1) ∧ (q.tx.isSome = true → q.queue ≠ [])

/-- An end of transmission leaves its service owed only to the command that stands next (R12, log 6). -/
def OwedSound (s : State) : Prop := ∀ g, s.owed = some g → s.pending.head? = some (.sendPendingService g)

/-- R6 for the three ports. -/
def QueuesSound (s : State) : Prop := PortSound .b s.ports.b ∧ PortSound .g1 s.ports.g1 ∧ PortSound .g2 s.ports.g2

/-! ### The calendar (04 section 4.1) -/

/-- The clock stays within the ranges of its fields. -/
def ClockSound (s : State) : Prop :=
  s.clock.day ≤ 65535 ∧ s.clock.dow ≤ 6 ∧ s.clock.minute ≤ 1439 ∧ s.clock.second ≤ 59

/-! ### Override stacks (R153, 10 section 10.1) -/

/-- An override entry within the permitted values of 10 section 10.1: tag, expiry, level and saved blind cap. -/
def EntrySound (e : Override) : Prop :=
  e.tag ≠ 0 ∧ (∀ n, e.expiry = some n → 1 ≤ n ∧ n ≤ 240) ∧
    (match e.body with
      | .inspection level saved => 50 ≤ level ∧ level ≤ 2000 ∧ saved ≤ 1000
      | .event level saved => 1 ≤ level ∧ level ≤ 1000 ∧ saved ≤ 1000
      | .dark saved => saved ≤ 1000
      | .climateHold => True)

/-- Every stack holds at most four entries, each within its permitted values. -/
def StacksSound (s : State) : Prop := ∀ z : Fin 16, s.overrides[z].length ≤ 4 ∧ ∀ e ∈ s.overrides[z], EntrySound e

/-! ### Blinds (08 section 8.1, R61) -/

/-- What the checks of R61 leave of two fields that the blind states rest on: a blind maximum is at most 1000 and a reopen
hold at most 120. -/
def BlindLimits (t : Tables) : Prop :=
  ∀ (z : Fin 16) (r : ZoneRec), t.zones[z] = some r → r.blindMax ≤ 1000 ∧ r.reopenHold ≤ 120

/-- 08 section 8.1, R136: the blind cap of a zone in use is at most its blind maximum and its reopen counter at most 119;
those of a zone not in use are 0. -/
def BlindsSound (s : State) : Prop :=
  BlindLimits s.tables ∧ BlindLimits s.store.image.tables ∧ (∀ copy, s.store.write = .save copy → BlindLimits copy) ∧
    ∀ z : Fin 16,
      (s.tables.zones[z] = none → s.blinds[z] = ⟨0, 0⟩) ∧
        ∀ r, s.tables.zones[z] = some r → s.blinds[z].cap ≤ r.blindMax ∧ s.blinds[z].reopen ≤ 119

/-! ### The pending set (R177, R179) -/

/-- The pending set stands in strictly ascending source number, so it holds each source at most once. -/
def PendingSound (s : State) : Prop := s.noticed.Pairwise (fun x y => x.1 < y.1)

/-! ### Loops (R130) -/

/-- R130 for one loop. -/
def LoopSound (s : State) (a : Fin 64) : Prop :=
  match spotFields s.tables.actuators[a] with
  | none => s.loops[a].u = 0
  | some (o, maxLevel, zone) =>
    s.loops[a].u ≤ 256 * maxLevel ∧
      (s.accounts[o].state ≠ .pacing ∨ (lightMode s zone).isDark = true → s.loops[a].u = 0)

/-- R130: every loop's U lies within its bounds, and is 0 while its object is not PACING or its zone is DARK or
CLOSED. -/
def LoopsSound (s : State) : Prop := ∀ a : Fin 64, LoopSound s a

/-! ### The write path (12 opening, R170, R183, R184, R187, R188) -/

/-- The write in progress is SAVE. -/
def saving : WriteOp → Bool
  | .save _ => true
  | .checkpoint _ => false
  | .none => false

/-- The write in progress is CHECKPOINT. -/
def checkpointing : WriteOp → Bool
  | .checkpoint _ => true
  | .save _ => false
  | .none => false

/-- A reset waits for a checkpoint write. -/
def waitsForWrite : Option ResetStage → Bool
  | some .hardWait => true
  | some .hardCheckpoint => true
  | some .softWait => true
  | some (.reloaded _) => false
  | none => false

/-- SAVE in flight is set exactly while a save waits or is written; nothing waits on a free write path; a reset that
waits for a write has a checkpoint in progress and no save in flight. -/
def StoreSound (s : State) : Prop :=
  s.save.isSome = (s.store.saveWaiting || saving s.store.write) ∧
    (s.store.write = .none → s.store.saveWaiting = false ∧ s.store.due = false) ∧
    (saving s.store.write = true → s.store.saveWaiting = false) ∧
    (waitsForWrite s.resetting = true → checkpointing s.store.write = true ∧ s.save = none)

/-! ### Tables that a write has checked (R28, R80) -/

/-- What the checks of R28 and R80 leave of two fields that other promises rest on: k is at most 4096 and a record in use
has a catalogue id other than 0. -/
def TablesSound (t : Tables) : Prop :=
  (∀ p : Fin 64, ∀ r, t.points[p] = some (.meas r) → r.k ≤ 4096) ∧ (∀ i : Fin 128, ∀ r, t.objects[i] = some r → r.id ≠ 0)

/-- The working tables, the image and the copy of a save in progress hold checked tables. -/
def AllTablesSound (s : State) : Prop :=
  TablesSound s.tables ∧ TablesSound s.store.image.tables ∧ (∀ copy, s.store.write = .save copy → TablesSound copy)

/-! ### Points (R28 to R41) -/

/-- A point agrees with its record. For a measurement point: the error count lies within 0 to the threshold + 1, and at
the threshold + 1 the point is SUSPECT (R32); Y is absent in STALE and SUSPECT and present in VALID (R32, R36, R40), and
lies within the plausible range × 256 (R38). -/
def PointSound (r : Option PointRec) (d : PointDyn) : Prop :=
  match r, d with
  | none, .unused => True
  | some (.pres _), .pres _ => True
  | some (.meas r), .meas d =>
    d.errors ≤ r.errThreshold + 1 ∧ (d.errors = r.errThreshold + 1 → d.state = .suspect) ∧
      (d.state = .valid → d.y.isSome = true) ∧ (d.state = .stale ∨ d.state = .suspect → d.y = none) ∧
      (∀ y, d.y = some y → r.low * 256 ≤ y ∧ y ≤ r.high * 256)
  | _, _ => False

/-- Every point agrees with its record. -/
def PointsSound (s : State) : Prop := AllTablesSound s ∧ ∀ p : Fin 64, PointSound s.tables.points[p] s.points[p]

/-! ### Accounts (06 section 6.1, R83) -/

/-- The account of an object not in use is UNUSED with every value 0, and that of an object in use is not UNUSED. -/
def AccountsSound (s : State) : Prop :=
  AllTablesSound s ∧ ∀ i : Fin 128,
    (s.tables.objects[i] = none → s.accounts[i] = .unused) ∧
      (s.tables.objects[i] ≠ none → s.accounts[i].state ≠ .unused)

/-! ### Zones (R63) -/

/-- R63: a zone not in use holds the values a reset gives it, and a blind cap and reopen counter of 0 (R136). -/
def ZonesSound (s : State) : Prop :=
  ∀ z : Fin 16, s.tables.zones[z] = none → s.zones[z] = .unused ∧ s.blinds[z] = ⟨0, 0⟩

/-! ### Actuators (07 section 7.3) -/

/-- An actuator not in use holds no values, is NORMAL and has its timer stopped; one without feedback configured is
NORMAL with its timer stopped and no feedback value; the timer runs exactly in AWAIT and FAULT. -/
def ActuatorSound (r : Option ActRec) (d : ActDyn) : Prop :=
  (r = none → d = .unused) ∧ ((r.bind (·.feedback)) = none → d.state = .normal ∧ d.feedback = none) ∧
    (d.timer.isSome = true ↔ d.state ≠ .normal)

/-- Every actuator agrees with its record. -/
def ActuatorsSound (s : State) : Prop := ∀ a : Fin 64, ActuatorSound s.tables.actuators[a] s.actuators[a]

/-! ### What a group of operations leaves unchanged -/

/-- From `s` to `t` nothing changes but queues, marks, step flags, actuators, the pending set and the free counter: what
an offer, a notice edge and a re-evaluation may touch. -/
structure Issues (s t : State) : Prop where
  owed : t.owed = s.owed
  tables : t.tables = s.tables
  points : t.points = s.points
  clock : t.clock = s.clock
  phase : t.phase = s.phase
  zones : t.zones = s.zones
  overrides : t.overrides = s.overrides
  heldPhase : t.heldPhase = s.heldPhase
  accounts : t.accounts = s.accounts
  loops : t.loops = s.loops
  blinds : t.blinds = s.blinds
  load : t.load = s.load
  save : t.save = s.save
  store : t.store = s.store
  resetting : t.resetting = s.resetting
  deferred : t.deferred = s.deferred
  held : t.held = s.held
  pending : t.pending = s.pending

/-- As `Issues`, and loops, blinds and accounts may change too: what the exposure unit and the light governor may touch. -/
structure Governs (s t : State) : Prop where
  owed : t.owed = s.owed
  tables : t.tables = s.tables
  points : t.points = s.points
  clock : t.clock = s.clock
  phase : t.phase = s.phase
  zones : t.zones = s.zones
  overrides : t.overrides = s.overrides
  heldPhase : t.heldPhase = s.heldPhase
  load : t.load = s.load
  save : t.save = s.save
  store : t.store = s.store
  resetting : t.resetting = s.resetting
  deferred : t.deferred = s.deferred
  held : t.held = s.held
  pending : t.pending = s.pending

/-- What the units may touch at an event of the calendar: not the tables, the clock, the phase, the load, the SAVE flag, the
reset, an owed service or the queue of commands. -/
structure Acts (s t : State) : Prop where
  owed : t.owed = s.owed
  tables : t.tables = s.tables
  clock : t.clock = s.clock
  phase : t.phase = s.phase
  load : t.load = s.load
  save : t.save = s.save
  resetting : t.resetting = s.resetting
  held : t.held = s.held
  pending : t.pending = s.pending

/-! ### What the statements name -/

/-- A frame joins a queue with room and is dropped at a full one (R10). -/
def joined (cap : Nat) (e : QEntry) (q : PortState) : PortState :=
  if q.queue.length < cap then { q with queue := q.queue ++ [e] } else q

/-- The bytes of a REPLY (13.1, R168, R190). -/
def replyBytes (node : Word) (channel name : Byte) (tag : Word) (st : Status) (data : List Byte) : List Byte :=
  let body := [0x06] ++ be16 node ++ [channel, BitVec.ofNat 8 (4 + data.length), name] ++ be16 tag ++ [st.code] ++ data
  [0x7E] ++ body ++ be16 (crc body)

/-- The state `t` with a REPLY offered to B. -/
def replying (t : State) (node : Word) (channel name : Byte) (tag : Word) (st : Status) (data : List Byte) : State :=
  { t with ports := { t.ports with b := joined 32 (.reply (replyBytes node channel name tag st data)) t.ports.b } }

/-- The state `t` that a request taken in `s` leaves, with its REPLY offered: the Node is the own node address as it stood
when the request was taken, and Channel and tag are the request's (R168). -/
def answered (s t : State) (name : Byte) (r : Request) (st : Status) (data : List Byte) : State :=
  replying t s.tables.device.ownNode r.channel name r.tag st data

/-- The request is executed: no reset is in progress (R181). -/
def serving (s : State) : Prop := s.resetting = none

/-- The line rate that the DEVICE entry gives a port. -/
def deviceRate (s : State) : Port → LineRate
  | .b => s.tables.device.rateB
  | .g1 => s.tables.device.rateG1
  | .g2 => s.tables.device.rateG2

/-- A port whose transmission has ended: the head has left, and a changed line rate that waited takes effect (R8, R13). -/
def freed (q : PortState) (rate : LineRate) : PortState :=
  if q.rateDue then ⟨.discarding, q.queue.drop 1, none, false, rate, false⟩
  else ⟨q.assembly, q.queue.drop 1, none, false, q.rate, false⟩

/-- Frame bytes that can come in whole: the port is not transmitting, no service is owed and its assembly is IDLE, and the
bytes are shaped as 13.1 says with a Kind of the seven. -/
def arrives (s : State) (p : Port) (bytes : List Byte) (k : FrameKind) : Prop :=
  s.owed = none ∧ (s.port p).tx = none ∧ (s.port p).assembly = .idle ∧ frameShape bytes = true ∧ kindOfCode (bytes.getD 1 0) = some k

/-- A port on whose line bytes have just stood. -/
def heard (s : State) (p : Port) : State := s.setPort p { s.port p with quiet := false }

/-- A frame offered in the direction of R5. -/
def relayed (s : State) (p : Port) (frame : List Byte) : State :=
  match p with
  | .b => { s with ports := { s.ports with
      g1 := joined 24 (.relayed frame) s.ports.g1
      g2 := joined 24 (.relayed frame) s.ports.g2 } }
  | .g1 => { s with ports := { s.ports with b := joined 32 (.relayed frame) s.ports.b } }
  | .g2 => { s with ports := { s.ports with b := joined 32 (.relayed frame) s.ports.b } }

/-- The command of a request name (13.2). RESET is a command of its own for each parameter; with any other it is refused,
and no command stands for it here. -/
def requestCommand (name : Byte) (r : Request) : Option Instr :=
  match name.toNat with
  | 0x01 => some (.queryDevice r)
  | 0x02 => some (.queryPoint r)
  | 0x03 => some (.queryActuator r)
  | 0x04 => some (.queryObject r)
  | 0x05 => some (.queryZone r)
  | 0x10 => some (.setTime r)
  | 0x20 => some (.loadOpen r)
  | 0x21 => some (.loadEntry r)
  | 0x22 => some (.loadAbort r)
  | 0x23 => some (.readEntry r)
  | 0x30 => some (.overridePush r)
  | 0x31 => some (.overridePop r)
  | 0x32 => some (.overrideCancel r)
  | 0x33 => some (.overrideClear r)
  | 0x40 => some (.objectPeriodStart r)
  | 0x41 => some (.doseSet r)
  | 0x50 => some (.collectNotices r)
  | 0x51 => some (.saveConfig r)
  | 0x60 =>
    if r.params.head? = some 0x02 then some (.resetHard r.channel r.tag)
    else if r.params.head? = some 0x01 then some (.resetSoft r.channel r.tag)
    else none
  | _ => none

/-- A governor command with level `v` for `a` counts as queued: sent becomes `v`, and the step flag of a setpoint actuator
becomes TAKEN when `v` differs from what sent held (R112, R142). -/
def queuedAt (s : State) (a : Fin 64) (r : ActRec) (v : Int) : State :=
  { s with
    actuators := s.actuators.set a { s.actuators[a] with sent := some v }
    flags := if r.kind.isLight = false ∧ s.actuators[a].sent ≠ some v then s.flags.set a true else s.flags }

/-- How many entries of a queue are in transmission: the head or none (R6). -/
def sendingCount (q : PortState) : Nat := if q.tx.isSome then 1 else 0

/-- R30, R31: a payload brings the sample value `x`, and it is plausible. -/
def BringsPlausible (r : MeasRec) (d : MeasDyn) (payload : List Byte) (x : Int) : Prop :=
  2 ≤ payload.length ∧ x = r.kind.value payload 0 ∧ r.low ≤ x ∧ x ≤ r.high ∧
    (r.stepLimit = 0 ∨ d.lastRaw = none ∨ ∃ last, d.lastRaw = some last ∧ (x - last).natAbs ≤ r.stepLimit)

/-- The loops whose light point is `p` as a departure from VALID leaves them: FROZEN, with e_prev absent (R126). -/
def frozenAt (s : State) (p : Fin 64) : Vector LoopCtx 64 :=
  Vector.ofFn (fun a => if loopPoint s a = some p then { s.loops[a] with ePrev := none, running := false } else s.loops[a])

/-- Whether another presence point of zone `z` than `p` counts as present (R74). -/
def othersCount (s : State) (z : Fin 16) (p : Fin 64) : Prop :=
  ∃ q : Fin 64, q ≠ p ∧ (∃ x, s.tables.points[q] = some (.pres x) ∧ x.zone = z) ∧ s.points[q].counts = true

/-- R57: the conditions under which the phase is OPEN. -/
def openAt (t : Tables) (c : Clock) : Prop :=
  c.unset = true ∨
    ((∀ h : Fin 16, t.holidays[h] ≠ some c.day) ∧
      ∃ w : Fin 7, w.val = c.dow ∧ t.week[w].openMinute ≤ c.minute ∧ c.minute < t.week[w].closeMinute)

/-- The phase agrees with clock and schedule, and a change from the phase of `s` has been delivered (R57). -/
def PhaseTaken (s t : State) : Prop :=
  (t.phase = .open ↔ openAt t.tables t.clock) ∧ t.heldPhase = if t.phase = s.phase then s.heldPhase else t.phase

/-- R85: the illuminance of the minute for an object, and whether it sets ESTIMATED. -/
def LuxOfMinute (s : State) (r : ObjectRec) (lux : Nat) (estimates : Bool) : Prop :=
  let illum := ∃ m, s.tables.points[r.lightPoint] = some (.meas m) ∧ m.kind = .illum
  let valid := fun y => illum ∧ ∃ d, s.points[r.lightPoint] = .meas d ∧ d.state = .valid ∧ d.y = some y
  let kept := fun h =>
    illum ∧ ∃ d, s.points[r.lightPoint] = .meas d ∧ (d.state = .warming ∨ d.state = .stale) ∧ d.held = some h
  (∃ y, valid y ∧ lux = (roundHalfAway y 256).toNat ∧ estimates = false) ∨
    (∃ h, kept h ∧ lux = (roundHalfAway h 256).toNat ∧ estimates = true) ∨
    ((∀ y, ¬ valid y) ∧ (∀ h, ¬ kept h) ∧ lux = r.ceiling ∧ estimates = true)

/-- R66: the reported values of the VALID points of a zone for a quantity. -/
def validValues (s : State) (z : Fin 16) (k : MeasKind) : List Int :=
  (List.finRange 64).filterMap (fun p =>
    match s.tables.points[p], s.points[p] with
    | some (.meas r), .meas d =>
      if r.zone = z ∧ r.kind = k ∧ d.state = .valid then d.y.map (fun y => roundHalfAway y 256) else none
    | _, _ => none)

/-- R66: the estimate that a list of reported values gives. -/
def estimate (vs : List Int) : Option Int := if vs = [] then none else some (roundHalfAway vs.sum vs.length)

/-- R67 to R69: from `m` a condition machine with band `b` goes to `n` at an evaluation with estimate `v`. -/
def MachineMoves (b : Band) (v : Option Int) (m n : CondMachine) : Prop :=
  (v = none → n = ⟨.unknown, m.side, 0⟩) ∧
  ∀ x, v = some x →
    (b.innerLow ≤ x ∧ x ≤ b.innerHigh →
      n.side = m.side ∧
        (m.state = .unknown ∨ m.state = .inBand → n.state = .inBand ∧ n.hold = 0) ∧
        (m.state = .drift ∨ m.state = .excursion → n.state = .recovering ∧ n.hold = b.hold) ∧
        (m.state = .recovering →
          n.hold = min m.hold b.hold - 1 ∧ n.state = if n.hold = 0 then CondState.inBand else .recovering)) ∧
    (¬ (b.innerLow ≤ x ∧ x ≤ b.innerHigh) →
      n.hold = 0 ∧
        (b.innerHigh < x → n.side = some .high) ∧ (x < b.innerLow → x ≤ b.innerHigh → n.side = some .low) ∧
        (b.outerLow ≤ x ∧ x ≤ b.outerHigh → n.state = if m.state = .excursion then CondState.excursion else .drift) ∧
        (¬ (b.outerLow ≤ x ∧ x ≤ b.outerHigh) → n.state = .excursion))

/-- A blind cap handed to a zone (R135, R162): limited to the blind maximum, the reopen counter 0; a zone not in use keeps
0. -/
def handed (s : State) (z : Fin 16) (c : Nat) : BlindState :=
  match s.tables.zones[z] with
  | some r => ⟨min c r.blindMax, 0⟩
  | none => ⟨0, 0⟩

/-- The deliveries of a change of a zone's stack and blind cap from `s` to `t`: a change of light mode goes to the exposure
unit, the loops and the lights, one of the level in force alone to the exposure unit (R155), and one of the blind cap to the
zone's blinds (R135). -/
def zoneNews (s t : State) (z : Fin 16) : List ZoneNews :=
  (if t.blinds[z].cap = s.blinds[z].cap then [] else [.blinds]) ++
    if lightMode t z ≠ lightMode s z then [.evaluate, .loops, .lights]
    else if levelOf t.overrides[z] ≠ levelOf s.overrides[z] then [.evaluate]
    else []

/-- What an override request on zone `z` does besides the stack and the blind cap it leaves: the deliveries, each once, in
some order (R155, R162), of which the fields say what they come to for the accounts, the loops and the lights (R127). That
stack and cap are in place before the first delivery is log 14. -/
structure OverrideFrame (s t : State) (z : Fin 16) : Prop where
  acts : Acts s t
  points : t.points = s.points
  zones : t.zones = s.zones
  heldPhase : t.heldPhase = s.heldPhase
  store : t.store = s.store
  deferred : t.deferred = s.deferred
  noticed : t.noticed = s.noticed
  lineB : t.ports.b = s.ports.b
  overrides : ∀ x : Fin 16, x ≠ z → t.overrides[x] = s.overrides[x]
  blinds : ∀ x : Fin 16, x ≠ z → t.blinds[x] = s.blinds[x]
  accounts : ∀ i : Fin 128, t.accounts[i] = { s.accounts[i] with lPerm := t.accounts[i].lPerm }
  evaluated : ∀ (i : Fin 128) (o : ObjectRec), s.tables.objects[i] = some o → o.zone = z →
    lightMode t z ≠ lightMode s z ∨ levelOf t.overrides[z] ≠ levelOf s.overrides[z] →
    t.accounts[i].lPerm = permitted t o t.accounts[i]
  unevaluated : ∀ i : Fin 128,
    (∀ o, s.tables.objects[i] = some o → o.zone = z →
      lightMode t z = lightMode s z ∧ levelOf t.overrides[z] = levelOf s.overrides[z]) →
    t.accounts[i] = s.accounts[i]
  loops : ∀ a : Fin 64, t.loops[a] =
    if lightMode t z ≠ lightMode s z ∧ (lightMode t z).isDark = true ∧
        ((spotFields s.tables.actuators[a]).map (fun x => x.2.2)) = some z then
      { s.loops[a] with u := 0, ePrev := none }
    else s.loops[a]
  delivered : ∃ (n : Nat) (order : List ZoneNews), order.Perm (zoneNews s t z) ∧
    t = order.foldl (fun u x => u.deliver z x)
      { s with overrides := s.overrides.set z t.overrides[z], blinds := s.blinds.set z t.blinds[z], free := n }
  lights : zoneNews s t z = [] ∨ zoneNews s t z = [.evaluate] → t.actuators = s.actuators ∧ t.marks = s.marks ∧ t.ports = s.ports

/-- An override entry with its saved blind cap left out. -/
def unsaved (e : Override) : Override := { e with body := e.body.withSaved 0 }

/-- R162, R163: what is left of a stack, given from the bottom, when its entries at expiry 0 leave, and the value handed to the
zone. `carried` is the saved blind cap under way: of a run of leaving light-kind entries the lowest counts, and the nearest
light-kind entry above that stays takes it; the value that no entry takes is the zone's. -/
def expiredOut (carried : Option Nat) : List Override → List Override × Option Nat
  | [] => ([], carried)
  | e :: above =>
    if e.expiry = some 0 then expiredOut (carried.orElse (fun _ => e.body.saved)) above
    else if e.body.isLight = true then
      ({ e with body := (carried.map e.body.withSaved).getD e.body } :: (expiredOut none above).1, (expiredOut none above).2)
    else (e :: (expiredOut carried above).1, (expiredOut carried above).2)

/-- The blind state of a zone to which a value is handed, or as it stands when none is (R135, R162). -/
def handedOver (s : State) (z : Fin 16) (value : Option Nat) : BlindState :=
  match value with
  | some c => handed s z c
  | none => s.blinds[z]

/-! ### Changes of state (R98) -/

/-- Nothing was offered to an actuator between `s` and `t`. -/
def NoOffer (s t : State) : Prop :=
  t.actuators = s.actuators ∧ t.flags = s.flags ∧ t.marks = s.marks ∧ t.ports.g1 = s.ports.g1 ∧ t.ports.g2 = s.ports.g2

/-- R98, R127: an act of the exposure unit has told the loops of every object whose state changed, and to which: the loops and
the actuators stand as the light governor leaves them for the objects that are now not PACING (`State.objectsAtLoops`). -/
def StatesTold (s t : State) : Prop :=
  let u := ({ s with accounts := t.accounts } : State).objectsAtLoops
    (fun i => decide (t.accounts[i].state ≠ s.accounts[i].state ∧ t.accounts[i].state ≠ .pacing))
  t.loops = u.loops ∧ NoOffer u t

/-! ### Phase changes (R156) -/

/-- The deliveries that a phase change brings to a zone: those of a change of its light mode, or none (R155). -/
def phaseNews (s : State) (z : Fin 16) : List ZoneNews :=
  if modeOf s.overrides[z] s.phase = modeOf s.overrides[z] s.heldPhase then [] else [.evaluate, .loops, .lights]

/-- R156: from `s` to `t` the override unit takes the phase of the calendar: the zones without a light-kind entry take their
mode from it, and those whose mode changes are delivered in ascending index, the deliveries of a zone in some order. The fields
say what they come to for the accounts (R94, R155), the loops (R127) and the rest. -/
structure PhaseFrame (s t : State) : Prop where
  heldPhase : t.heldPhase = s.phase
  modes : ∀ z : Fin 16,
    (topLight s.overrides[z] = none → lightMode t z = match s.phase with
      | .open => .open
      | .closed => .closed) ∧
    (topLight s.overrides[z] ≠ none → lightMode t z = lightMode s z)
  delivered : ∃ (n : Nat) (order : Fin 16 → List ZoneNews), (∀ z, (order z).Perm (phaseNews s z)) ∧
    t = (List.finRange 16).foldl (fun u z => (order z).foldl (fun u x => u.deliver z x) u)
      { s with heldPhase := s.phase, free := n }
  rest : t = { s with
    heldPhase := t.heldPhase
    accounts := t.accounts
    loops := t.loops
    ports := t.ports
    marks := t.marks
    actuators := t.actuators
    free := t.free }
  lineB : t.ports.b = s.ports.b
  evaluated : ∀ (i : Fin 128) (o : ObjectRec), s.tables.objects[i] = some o →
    (lightMode t o.zone ≠ lightMode s o.zone →
      t.accounts[i] = { s.accounts[i] with lPerm := permitted t o s.accounts[i] }) ∧
    (lightMode t o.zone = lightMode s o.zone → t.accounts[i] = s.accounts[i])
  unused : ∀ i : Fin 128, s.tables.objects[i] = none → t.accounts[i] = s.accounts[i]
  loops : ∀ a : Fin 64,
    (∀ o maxLevel z, spotFields s.tables.actuators[a] = some (o, maxLevel, z) →
      (lightMode t z ≠ lightMode s z → lightMode t z = .closed → t.loops[a] = { s.loops[a] with u := 0, ePrev := none }) ∧
      (lightMode t z = lightMode s z ∨ lightMode t z ≠ .closed → t.loops[a] = s.loops[a])) ∧
    (spotFields s.tables.actuators[a] = none → t.loops[a] = s.loops[a])

/-- R94: the L_perm that an object in use holds after a boundary is that of its last evaluation: with its account, the tables,
the clock, the phase and the zone's light mode and level as they stand after the boundary, and with the zone's stack (of which
it reads an EVENT entry's remaining expiry) and TEMP machine as they stood before or after the acts of their units (R97). -/
def LastEvaluated (s t : State) (i : Fin 128) (o : ObjectRec) : Prop :=
  ∃ w : State, w = { t with zones := w.zones, overrides := w.overrides, heldPhase := w.heldPhase } ∧
    (w.overrides[o.zone] = s.overrides[o.zone] ∨ w.overrides[o.zone] = t.overrides[o.zone]) ∧
    (w.zones[o.zone].temp = s.zones[o.zone].temp ∨ w.zones[o.zone].temp = t.zones[o.zone].temp) ∧
    lightMode w o.zone = lightMode t o.zone ∧ levelOf w.overrides[o.zone] = levelOf t.overrides[o.zone] ∧
    t.accounts[i].lPerm = permitted w o t.accounts[i]

/-! ### Acts of a boundary (R51, R52, R60) -/

/-- One act of a boundary: a unit takes it, or it is held for the end of a reset's reload; `free` is the counter of free choices
that the act finds. -/
def takenOrHeld (s : State) (act : Act) (held : Bool) (free : Nat) : State :=
  if held then { s with held := s.held ++ [act], free } else ({ s with free } : State).take act

/-! ### Edges (R177) -/

/-- The edge `e` of a source has been delivered: when the NOTICE table enables it, the source is pending. -/
def EdgeTold (t : State) (src : Fin 324) (e : Edge) : Prop := t.tables.notices[src].enables e = true → ∃ x, (src, x) ∈ t.noticed

/-- A condition that held as `was` says and holds as `now` says has given its edge. -/
def ConditionTold (t : State) (src : Fin 324) (was now : Prop) : Prop :=
  (¬ was → now → EdgeTold t src .enter) ∧ (was → ¬ now → EdgeTold t src .exit)

/-- A condition that a reset has begun or ended has left its edge for the completion (R180). -/
def ConditionDeferred (t : State) (src : Fin 324) (was now : Prop) : Prop :=
  (¬ was → now → (src, Edge.enter) ∈ t.deferred) ∧ (was → ¬ now → (src, Edge.exit) ∈ t.deferred)

/-! ### Accounts at a boundary (R85, R86, R88) -/

/-- R84 to R86: an account after the accrual of a minute with illuminance `lux`; UV_HIGH and L_perm are left as they were. -/
def accruedWith (r : ObjectRec) (lux : Nat) (estimates : Bool) (x : Account) : Account :=
  let today := min (x.today + lux) 4294967295
  { x with
    today
    estimated := x.estimated || estimates
    state := if r.budget * 60000 ≤ min (x.before + today) 4294967295 then .exhausted else .pacing }

/-- R88: an account after a day boundary with day difference `n`; L_perm is left as it was. -/
def rolledOver (r : ObjectRec) (n : Nat) (x : Account) : Account :=
  let sum := min (x.before + x.today) 4294967295
  let ended := r.period ≤ x.days + n
  let before := if ended then 0 else sum
  let days := if ended then 0 else x.days + n
  { x with
    before
    days
    today := 0
    estimated := false
    lastPeriod := if ended then sum else x.lastPeriod
    doseLost := if ended then false else x.doseLost
    allowance := (r.budget * 60000 - before) / (r.period - days)
    state := if r.budget * 60000 ≤ before then .exhausted else if ended then .pacing else x.state }

/-- R102: an account restored from the dose-loss allowance, with L_perm as given. -/
def allowanceAccount (allowance : Nat) (o : ObjectRec) (lPerm : Nat) : Account :=
  let dose := o.budget * 60000 * allowance / 100
  ⟨dose, 0, 0, (o.budget * 60000 - dose) / o.period, 0, lPerm, if o.budget * 60000 ≤ dose then .exhausted else .pacing,
    false, true, false⟩

/-! ### Checkpoint writes (R185, R189) -/

/-- R185: the generation of a write to the region `v`: 1 when no record is good, and one above the newest generation where that
is the largest and far from wrapping. -/
def WriteGeneration (v : Vector Slots 128) (g : Quad) : Prop :=
  ((∀ i : Fin 128, v[i] = ⟨none, none⟩) → g = 1) ∧
    ∀ m : Nat, m < 2147483647 →
      (∀ (i : Fin 128) (c : Ckpt), v[i].slot0 = some c ∨ v[i].slot1 = some c → c.generation.toNat ≤ m) →
      (∃ (i : Fin 128) (c : Ckpt), (v[i].slot0 = some c ∨ v[i].slot1 = some c) ∧ c.generation.toNat = m) →
      g.toNat = m + 1

/-- R185: one slot of an object has been filled with `x`, `none` being a record whose check does not hold: the slot without the
newest good record, and slot 0 when no record is good. -/
def SlotFilled (old new : Slots) (x : Option Ckpt) : Prop :=
  (∀ c, old.newest = some c → (old.slot0 = some c ∧ new = ⟨some c, x⟩) ∨ (old.slot1 = some c ∧ new = ⟨x, some c⟩)) ∧
    (old = ⟨none, none⟩ → new = ⟨x, none⟩)

/-- The change of STORE_FAULT that the end of a write within a reset leaves for the completion (R180, R186). -/
def faultEdge (was now : Bool) : List (Fin 324 × Edge) :=
  if was = now then [] else [(320, if now then .enter else .exit)]

/-! ### Blind stepping (R132 to R134) -/

/-- R133: the measured illuminance at a light point: its reported value, when it is in use, of kind ILLUM and VALID. -/
def measures (s : State) (p : Fin 64) (e : Int) : Prop :=
  ∃ m d y, s.tables.points[p] = some (.meas m) ∧ m.kind = .illum ∧ s.points[p] = .meas d ∧ d.state = .valid ∧ d.y = some y ∧
    e = roundHalfAway y 256

/-- R122, R133: an object has no spot loop, or its spot loop's U is 0. -/
def spotSpent (s : State) (o : ObjectRec) : Prop :=
  ∀ a, o.spot = some a → spotFields s.tables.actuators[a] ≠ none → s.loops[a].u = 0

/-- R133: excess in a zone. -/
def excessAt (s : State) (z : Fin 16) : Prop :=
  ∃ (i : Fin 128) (o : ObjectRec), s.tables.objects[i] = some o ∧ o.zone = z ∧
    (s.accounts[i].uvHigh = true ∨
      ∃ e, measures s o.lightPoint e ∧ ((s.accounts[i].lPerm + o.tolerance : Nat) : Int) < e ∧ spotSpent s o)

/-- R134: quiet in a zone, with a reopen margin. -/
def quietAt (s : State) (z : Fin 16) (margin : Nat) : Prop :=
  ∀ (i : Fin 128) (o : ObjectRec), s.tables.objects[i] = some o → o.zone = z →
    ∃ e, measures s o.lightPoint e ∧ e ≤ max 0 ((s.accounts[i].lPerm : Int) - margin)

/-- R132: from `b` the blind state of zone `z`, in use with record `r`, goes to `n` at a minute boundary. -/
def BlindSteps (s : State) (z : Fin 16) (r : ZoneRec) (b n : BlindState) : Prop :=
  let dark := lightMode s z = .dark ∨ lightMode s z = .closed
  (dark → n = ⟨0, 0⟩) ∧
    (¬ dark → excessAt s z → n = ⟨b.cap - r.blindStep, 0⟩) ∧
    (¬ dark → ¬ excessAt s z → quietAt s z r.reopenMargin →
      (b.reopen + 1 < r.reopenHold → n = ⟨b.cap, b.reopen + 1⟩) ∧
        (r.reopenHold ≤ b.reopen + 1 → n = ⟨min (b.cap + r.blindStep) r.blindMax, 0⟩)) ∧
    (¬ dark → ¬ excessAt s z → ¬ quietAt s z r.reopenMargin → n = ⟨b.cap, 0⟩)

/-! ### Writes of entries (03, 05, 06, 07) -/

/-- Another presence point than `p` names zone `z` (R64). -/
def othersIn (s : State) (z : Fin 16) (p : Fin 64) : Prop :=
  ∃ q : Fin 64, q ≠ p ∧ ∃ x, s.tables.points[q] = some (.pres x) ∧ x.zone = z

/-- The zone of a presence point in use, before or after a write of its entry. -/
def namesZone (r : Option PointRec) (z : Fin 16) : Prop := ∃ x, r = some (.pres x) ∧ x.zone = z

/-- R46, R64, R76: from `d` zone `z`, in use with record `zr`, goes to `n` when the entry of point `p` becomes `r`. -/
def ZoneTakesPoint (s : State) (p : Fin 64) (r : Option PointRec) (z : Fin 16) (zr : ZoneRec) (d n : ZoneDyn) : Prop :=
  let was := namesZone s.tables.points[p] z
  let now := namesZone r z
  let starts := some (zr.absenceTimeout * 60)
  (was → ¬ now → ¬ othersIn s z p → n = { d with present := true, absence := none }) ∧
    (¬ was → now → ¬ othersIn s z p → n = { d with absence := starts }) ∧
    (¬ was → now → othersIn s z p → n = d) ∧
    (was → now ∨ othersIn s z p →
      (s.points[p].counts = true → ¬ othersCount s z p → n = { d with absence := starts }) ∧
        (s.points[p].counts = false ∨ othersCount s z p → n = d)) ∧
    (¬ was → ¬ now → n = d)

/-- R106: two entries hold actuators in use of the same Kind, Node and Channel. -/
def keepsIdentity (old new : Option ActRec) : Prop :=
  ∃ x y, old = some x ∧ new = some y ∧ x.kind.code = y.kind.code ∧ x.node = y.node ∧ x.channel = y.channel

/-! ### What a write of an entry asks (R21 to R23, R28, R56, R61, R80, R105, R176) -/

/-- The bytes of an entry (13.3). -/
def entryLength (table : TableName) (i : Nat) : Nat :=
  match table with
  | .device => 8
  | .classifier => 21
  | .point => 17
  | .actuator => 20
  | .object => 21
  | .zone => 33
  | .schedule => if i < 7 then 4 else 3
  | .notice => 1

/-- R176. -/
def DeviceFits (e : DeviceEntry) : Prop := 60 ≤ e.window ∧ e.window ≤ 1440 ∧ e.allowance ≤ 100

/-- R21, R22 and R23, the records as they stand in `t`. -/
def ClassFits (t : Tables) (e : ClassEntry) : Prop :=
  e.mask.length = 8 ∧ (e.lengthPresent = true → e.length.toNat ≤ 64) ∧ e.maskLength ≤ 8 ∧
    (e.maskLength ≠ 0 → ∃ x ∈ e.mask.take e.maskLength, x ≠ 0) ∧
    (e.presencePresent = true ↔ e.kind = .presence ∧ ∃ p, e.target = .toPoint p) ∧
    (∀ p, e.target = .toPoint p → e.port ≠ .b ∧
      ((e.kind = .sample ∧ ∀ x, t.points[p] = some x → ∃ m, x = .meas m) ∨
        (e.kind = .presence ∧ ∀ x, t.points[p] = some x → ∃ m, x = .pres m))) ∧
    (∀ a, e.target = .toActuator a →
      (e.kind = .command ∧ e.port = .b) ∨
        (e.kind = .feedback ∧ e.port ≠ .b ∧ ∀ x, t.actuators[a] = some x → x.feedback ≠ none))

/-- R28: a stale limit. -/
def StaleLimitFits (n : Nat) : Prop := n = 0 ∨ (5 ≤ n ∧ n ≤ 3600)

/-- R28 for a measurement point, with the kinds' ranges of 03 section 3.1. -/
def MeasFits (r : MeasRec) : Prop :=
  let low : Int := if r.kind = .temp then -2000 else 0
  let high : Int := match r.kind with
    | .illum => 65000
    | .uv => 5000
    | .temp => 6000
    | .rh => 10000
  1 ≤ r.k ∧ r.k ≤ 4096 ∧ low ≤ r.low ∧ r.low < r.high ∧ r.high ≤ high ∧ (r.stepLimit : Int) ≤ high - low ∧
    StaleLimitFits r.staleLimit ∧ 1 ≤ r.errThreshold ∧ r.errThreshold ≤ 63 ∧ 1 ≤ r.warmUp ∧ r.warmUp ≤ 16

/-- R28 for a point record. -/
def PointFits : PointRec → Prop
  | .meas r => MeasFits r
  | .pres r => StaleLimitFits r.staleLimit ∧ 10 ≤ r.stuckLimit ∧ r.stuckLimit ≤ 1440

/-- R105, with the ranges of 07 section 7.1. -/
def ActuatorFits (r : ActRec) : Prop :=
  let levels := fun maxLevel deadband : Nat => 1 ≤ maxLevel ∧ maxLevel ≤ 1000 ∧ 1 ≤ deadband ∧ deadband ≤ 100
  (match r.kind with
    | .spot _ kp ki maxLevel deadband => kp ≤ 65535 ∧ ki ≤ 65535 ∧ levels maxLevel deadband
    | .blind maxLevel deadband => levels maxLevel deadband
    | .rhSp slew => 1 ≤ slew ∧ slew ≤ 500
    | .tempSp slew => 1 ≤ slew ∧ slew ≤ 500) ∧
    ∀ f, r.feedback = some f → f.tolerance ≤ 100 ∧ 5 ≤ f.timeout ∧ f.timeout ≤ 600

/-- R80: the records that an object names, as they stand in `t`. -/
def ObjectLinksFit (t : Tables) (o : ObjectRec) : Prop :=
  (∀ x, t.points[o.lightPoint] = some x → ∃ m, x = .meas m ∧ m.kind = .illum) ∧
    (∀ u, o.uv = some u → ∀ x, t.points[u.point] = some x → ∃ m, x = .meas m ∧ m.kind = .uv) ∧
    (∀ a, o.spot = some a → ∀ x, t.actuators[a] = some x → x.kind.isSpot = true)

/-- R80, with the ranges of 06 section 6.1. -/
def ObjectFits (t : Tables) (o : ObjectRec) : Prop :=
  o.id ≠ 0 ∧ (∀ u, o.uv = some u → 1 ≤ u.ceiling ∧ u.ceiling ≤ 5000) ∧ 1 ≤ o.budget ∧ o.budget ≤ 2000 ∧ 1 ≤ o.period ∧
    o.period ≤ 1000 ∧ 1 ≤ o.ceiling ∧ o.ceiling ≤ 1000 ∧ o.floorLux ≤ o.ceiling ∧ o.tolerance ≤ 500 ∧ ObjectLinksFit t o

/-- R61, with the ranges of 05 section 5.1. -/
def ZoneFits (r : ZoneRec) : Prop :=
  let band := fun (b : Band) (low high : Int) =>
    low ≤ b.outerLow ∧ b.outerLow ≤ b.innerLow ∧ b.innerLow < b.innerHigh ∧ b.innerHigh ≤ b.outerHigh ∧ b.outerHigh ≤ high ∧
      1 ≤ b.hold ∧ b.hold ≤ 240
  band r.rh 0 10000 ∧ band r.temp (-2000) 6000 ∧ 50 ≤ r.rateLimit ∧ r.rateLimit ≤ 2000 ∧ r.rateRelease < r.rateLimit ∧
    1 ≤ r.blindStep ∧ r.blindStep ≤ 200 ∧ r.blindMax ≤ 1000 ∧ 1 ≤ r.reopenHold ∧ r.reopenHold ≤ 120 ∧ r.reopenMargin ≤ 500 ∧
    1 ≤ r.absenceTimeout ∧ r.absenceTimeout ≤ 120 ∧ r.standby ≤ 1000 ∧ r.factor ≤ 100

/-- R56. -/
def WeekFits (e : WeekEntry) : Prop :=
  (e.openMinute < e.closeMinute ∧ e.closeMinute ≤ 1440) ∨ (e.openMinute = 0 ∧ e.closeMinute = 0)

/-- What an entry written at an index holds, as the tables `t` after the write have it and `s` before. -/
def EntryFits (s t : Tables) (table : TableName) (i : Nat) : Prop :=
  match table with
  | .device => DeviceFits t.device
  | .classifier => ∀ (k : Fin 96) (e : ClassEntry), k.val = i → t.classifier[k] = some e → ClassFits s e
  | .point => ∀ (p : Fin 64) (r : PointRec), p.val = i → t.points[p] = some r → PointFits r
  | .actuator => ∀ (a : Fin 64) (r : ActRec), a.val = i → t.actuators[a] = some r → ActuatorFits r
  | .object => ∀ (k : Fin 128) (o : ObjectRec), k.val = i → t.objects[k] = some o → ObjectFits s o
  | .zone => ∀ (z : Fin 16) (r : ZoneRec), z.val = i → t.zones[z] = some r → ZoneFits r
  | .schedule => ∀ w : Fin 7, w.val = i → WeekFits t.week[w]
  | .notice => True

/-! ### Entries -/

/-- The bytes that READ_ENTRY gives for an entry written from `bs` (R191): flag bits not named are zero, and an entry not in
use is all zero. -/
def asWritten (table : TableName) (i : Nat) (bs : List Byte) : List Byte :=
  let first := bs.getD 0 0
  match table with
  | .device => bs.take 8
  | .classifier => if first.getLsbD 0 then [first &&& 0x0F] ++ (bs.drop 1).take 20 else List.replicate 21 0
  | .point => if first = 0 then List.replicate 17 0 else bs.take 17
  | .actuator => if first.getLsbD 0 then [first &&& 0x03] ++ (bs.drop 1).take 19 else List.replicate 20 0
  | .object =>
    if bs.take 4 = [0, 0, 0, 0] then List.replicate 21 0 else bs.take 4 ++ [bs.getD 4 0 &&& 0x03] ++ (bs.drop 5).take 16
  | .zone => if first = 0 then List.replicate 33 0 else bs.take 33
  | .schedule => if i < 7 then bs.take 4 else if first = 0 then List.replicate 3 0 else bs.take 3
  | .notice => [first &&& 0x03]

/-- The state `u` with the edge of source 320 that a change of STORE_FAULT from `was` gives (R186). -/
def storeEdge (was : Bool) (u : State) : State :=
  let now := u.store.imageFault || u.store.ckptFault
  if was = now then u else if now then u.edge 320 .enter else u.edge 320 .exit

/-- What the reload of a reset of kind `k` leaves (R14, R26, R49, R60, R79, R94, R117, R118, R121, R152, R167, R170, R174,
R180, R182, R186, R189). A power-on reset finds no condition holding (log 12). -/
structure Reloaded (k : ResetKind) (s t : State) : Prop where
  tables : t.tables = if imageCheck s.store.image.tables = s.store.image.check then s.store.image.tables else factoryTables
  imageFault : t.store.imageFault = decide (imageCheck s.store.image.tables ≠ s.store.image.check)
  ckptFault : t.store.ckptFault = if k = .powerOn then false else s.store.ckptFault
  image : t.store.image = s.store.image
  slots : t.store.slots = s.store.slots
  writePath : t.store.write = .none ∧ t.store.saveWaiting = false ∧ t.store.due = false ∧ t.save = none
  queues : ∀ p, (t.port p).queue = [] ∧ (t.port p).tx = none ∧ (t.port p).assembly = .discarding ∧
    (t.port p).rate = deviceRate t p
  marks : ∀ a : Fin 64, t.marks[a] = false
  load : t.load = none
  noticed : t.noticed = if k = .soft then s.noticed else []
  clock : t.clock = if k = .powerOn then ⟨0, 0, 0, 0, true⟩ else s.clock
  phase : (t.phase = .open ↔ openAt t.tables t.clock) ∧ t.heldPhase = t.phase
  overrides : ∀ z : Fin 16, t.overrides[z] = []
  flags : ∀ a : Fin 64, t.flags[a] = false
  points : ∀ p : Fin 64, t.points[p] = freshPoint t.tables.points[p]
  zonesUnused : ∀ z : Fin 16, t.tables.zones[z] = none → t.zones[z] = .unused
  zones : ∀ (z : Fin 16) (r : ZoneRec), t.tables.zones[z] = some r →
    t.zones[z] = { ZoneDyn.unused with
      absence := if presencePoints t.tables z = [] then none else some (r.absenceTimeout * 60) }
  actuators : ∀ a : Fin 64, t.actuators[a] =
    if k = .soft ∧ sameIdentity s.tables.actuators[a] t.tables.actuators[a] = true then
      ⟨s.actuators[a].requested, s.actuators[a].sent, none, .normal, none⟩
    else .unused
  unusedAccounts : ∀ i : Fin 128, t.tables.objects[i] = none → t.accounts[i] = .unused
  permitted : ∀ (i : Fin 128) (o : ObjectRec), t.tables.objects[i] = some o →
    t.accounts[i].lPerm = Machine.permitted t o t.accounts[i]
  loops : ∀ a : Fin 64, t.loops[a] =
    match spotFields t.tables.actuators[a] with
    | none => ⟨0, none, false⟩
    | some (o, maxLevel, zone) =>
      ⟨if k = .soft ∧ sameIdentity s.tables.actuators[a] t.tables.actuators[a] = true ∧ t.accounts[o].state = .pacing ∧
          (lightMode t zone).isDark = false then min s.loops[a].u (256 * maxLevel) else 0, none, false⟩
  blinds : ∀ z : Fin 16, t.blinds[z] =
    match t.tables.zones[z] with
    | none => ⟨0, 0⟩
    | some r => if k = .soft then ⟨min s.blinds[z].cap r.blindMax, 0⟩ else ⟨0, 0⟩
  owed : t.owed = none
  zoneEdges : ∀ z : Fin 16,
    ConditionDeferred t (sourceRh z) (k ≠ .powerOn ∧ s.zones[z].rh.state = .excursion) False ∧
    ConditionDeferred t (sourceTemp z) (k ≠ .powerOn ∧ s.zones[z].temp.state = .excursion) False ∧
    ConditionDeferred t (sourceRateHold z) (k ≠ .powerOn ∧ s.zones[z].rateHold = true) False
  objectEdges : ∀ i : Fin 128,
    ConditionDeferred t (sourceObject i) (k ≠ .powerOn ∧ s.accounts[i].state = .exhausted) (t.accounts[i].state = .exhausted)
  pointEdges : ∀ p : Fin 64, ConditionDeferred t (sourcePoint p) (k ≠ .powerOn ∧ s.points[p].degraded = true) False
  actuatorEdges : ∀ a : Fin 64, ConditionDeferred t (sourceActuator a) (k ≠ .powerOn ∧ s.actuators[a].state = .fault) False
  storeEdge : ConditionDeferred t 320 (k ≠ .powerOn ∧ (s.store.imageFault = true ∨ s.store.ckptFault = true))
    (t.store.imageFault = true ∨ t.store.ckptFault = true)
  clockEdge : ConditionDeferred t 321 (k ≠ .powerOn ∧ s.clock.unset = true) (t.clock.unset = true)
  doseEdge : ConditionDeferred t 322 (k ≠ .powerOn ∧ ∃ i : Fin 128, s.accounts[i].doseLost = true)
    (∃ i : Fin 128, t.accounts[i].doseLost = true)
  stage : t.resetting = some (.reloaded k)
  pending : t.pending = s.pending

end Sys2Proof.Safety
end

