-- ==== Sys2Proof/Certificates/Slice0/Obligations.lean ====
section
/-! DEFINITION. The statements for the provers. -/

open Sys2Proof Sys2Proof.Machine Sys2Proof.Safety

/-! ### The queue of commands -/

/-- A step runs the command at the front of the queue with the queue's rest; an empty queue idles (log 2). -/
def Obligations.StepRunsTheFrontCommand : Prop :=
  (∀ (c : Instr) (rest : List Instr) (s : State), step { s with pending := c :: rest } = exec c { s with pending := rest }) ∧
    ∀ s : State, s.pending = [] → step s = .next s

/-- No command stops, and none touches the queue of commands. -/
def Obligations.EveryCommandAnswersAndKeepsTheQueue : Prop :=
  ∀ (c : Instr) (s : State), ∃ t, exec c s = .next t ∧ t.pending = s.pending

/-! ### Frames and ports (01, 02, 13) -/

/-- R190, 13.1: a frame the part builds is good, is shaped as a frame, and spells the fields it was built from. -/
def Obligations.BuiltFramesAreGood : Prop :=
  ∀ (k : FrameKind) (node : Word) (channel : Byte) (payload : List Byte), payload.length ≤ 64 →
    frameGood (buildFrame k node channel payload) = true ∧
    frameShape (buildFrame k node channel payload) = true ∧
    kindOfCode ((buildFrame k node channel payload).getD 1 0) = some k ∧
    frameNode (buildFrame k node channel payload) = node ∧
    frameChannel (buildFrame k node channel payload) = channel ∧
    framePayload (buildFrame k node channel payload) = payload

/-- R1: what the receive assembly does with a byte, a break and a silence. A byte that completes a frame hands the frame to
the check of R2 (`State.complete`). -/
def Obligations.ReceptionOfBytes : Prop :=
  ∀ (s : State) (p : Port),
    (s.resetting = none → exec (.lineSilence p) s = .next (s.setPort p { s.port p with assembly := .idle, quiet := true })) ∧
    ((s.port p).tx = none → ∀ b : Byte,
      let took := fun x : Assembly => s.setPort p { s.port p with assembly := x, quiet := false }
      ((s.port p).assembly = .idle →
        exec (.byteReceived p b) s = .next (took (if b = 0x7E then .assembling [b] else .discarding))) ∧
      ((s.port p).assembly = .discarding →
        exec (.byteReceived p b) s = .next (took .discarding) ∧ exec (.receiveBreak p) s = .next (took .discarding)) ∧
      ∀ bytes, (s.port p).assembly = .assembling bytes →
        let frame := bytes ++ [b]
        let length := (frame.getD 5 0).toNat
        exec (.receiveBreak p) s = .next (took .discarding) ∧
        (frame.length < 6 → exec (.byteReceived p b) s = .next (took (.assembling frame))) ∧
        (6 ≤ frame.length → 64 < length ∨ kindOfCode (frame.getD 1 0) = none →
          exec (.byteReceived p b) s = .next (took .discarding)) ∧
        (6 ≤ frame.length → length ≤ 64 → kindOfCode (frame.getD 1 0) ≠ none →
          (frame.length < 8 + length → exec (.byteReceived p b) s = .next (took (.assembling frame))) ∧
          (8 + length ≤ frame.length → exec (.byteReceived p b) s = .next ((took .idle).complete p frame))))

/-- R7: when a port begins to transmit, and what its read-back does. `quiet` says that at least 2 ms have passed since the
last byte on the line. -/
def Obligations.TransmissionAndReadBack : Prop :=
  ∀ (s : State) (p : Port),
    ((s.port p).queue ≠ [] → (s.port p).tx = none → (s.port p).assembly = .idle → (s.port p).quiet = true →
      exec (.transmissionStart p) s = .next (s.setPort p { s.port p with tx := some 0 })) ∧
    ((s.port p).queue = [] ∨ (s.port p).tx ≠ none ∨ (s.port p).assembly ≠ .idle ∨ (s.port p).quiet = false →
      exec (.transmissionStart p) s = .next s) ∧
    ∀ (n : Nat) (e : QEntry) (rest : List QEntry), (s.port p).tx = some n → (s.port p).queue = e :: rest →
      exec (.receiveBreak p) s = exec (.transmissionAbandon p) s ∧
      ∀ b : Byte,
        (e.bytes[n]? = some b → n + 1 < e.bytes.length →
          exec (.byteReceived p b) s = .next (s.setPort p { s.port p with tx := some (n + 1), quiet := false })) ∧
        (e.bytes[n]? = some b → n + 1 = e.bytes.length →
          exec (.byteReceived p b) s = exec (.transmissionComplete p) s) ∧
        (e.bytes[n]? ≠ some b → exec (.byteReceived p b) s = exec (.transmissionAbandon p) s)

/-- R8, R9, R12, R113: a completion removes the head and, for a GOVERNOR entry, starts the feedback supervision of its
actuator; an abandonment removes the head, leaves the assembly DISCARDING and marks the actuator of a GOVERNOR entry
SEND_PENDING; on a gallery port each then serves the marks once. The model's choices: without a transmission the two commands
change nothing, and when the very next command is the service of that port, the one service is left to it (log 6). -/
def Obligations.EndsOfTransmissionServeOnce : Prop :=
  ∀ (s : State) (p : Port),
    ((s.port p).tx = none ∨ (s.port p).queue = [] →
      exec (.transmissionComplete p) s = .next s ∧ exec (.transmissionAbandon p) s = .next s) ∧
    ∀ (n : Nat) (e : QEntry) (rest : List QEntry), (s.port p).tx = some n → (s.port p).queue = e :: rest →
      let done := s.setPort p (freed (s.port p) (deviceRate s p))
      let lost := s.setPort p { freed (s.port p) (deviceRate s p) with assembly := .discarding }
      let served := fun (g : Gallery) (u : State) =>
        if s.pending.head? = some (.sendPendingService g) then .next { u with owed := some g }
        else exec (.sendPendingService g) { u with owed := some g }
      ((∀ a node channel level, e ≠ .governor a node channel level) →
        (p = .b → exec (.transmissionComplete p) s = .next done ∧ exec (.transmissionAbandon p) s = .next lost) ∧
        ∀ g : Gallery, p = g.line →
          exec (.transmissionComplete p) s = served g done ∧ exec (.transmissionAbandon p) s = served g lost) ∧
      ∀ (a : Fin 64) (node : Word) (channel : Byte) (level : Int) (g : Gallery),
        e = .governor a node channel level → p = g.line →
          exec (.transmissionAbandon p) s = served g (lost.setMark a true) ∧
          (∀ r f v, s.tables.actuators[a] = some r → r.feedback = some f → s.actuators[a].sent = some v →
            let u := done.setActuator a { s.actuators[a] with state := .await, timer := some f.timeout }
            exec (.transmissionComplete p) s =
              served g (if s.actuators[a].state = .fault then u.edge (sourceActuator a) .exit else u)) ∧
          ((s.tables.actuators[a].bind (·.feedback)) = none ∨ s.actuators[a].sent = none →
            exec (.transmissionComplete p) s = served g done)

/-- R1 to R5, R10: the bytes of a whole frame come in. A frame whose check differs, a dropped frame and an intercepted frame
on a gallery port leave no trace; an unmatched or passed frame, and a MANAGE frame for another node, is relayed byte for byte
in its direction and changes nothing else; a SAMPLE or PRESENCE frame used by a point, and a FEEDBACK frame used by an
actuator, is handed on whole and relayed, in either order, whatever room the queues have. -/
def Obligations.FramesAreRelayedOrLeaveNoTrace : Prop :=
  ∀ (s : State) (p : Port) (bytes : List Byte) (k : FrameKind), arrives s p bytes k →
    (frameGood bytes = false → exec (.frameArrival p bytes) s = .next (heard s p)) ∧
    (frameGood bytes = true →
      (k = .manage → frameNode bytes ≠ s.tables.device.ownNode →
        exec (.frameArrival p bytes) s = .next (relayed (heard s p) p bytes)) ∧
      (k = .manage → frameNode bytes = s.tables.device.ownNode → p ≠ .b →
        exec (.frameArrival p bytes) s = .next (heard s p)) ∧
      (k ≠ .manage → classify s.tables k p bytes = .unmatched ∨ classify s.tables k p bytes = .pass →
        exec (.frameArrival p bytes) s = .next (relayed (heard s p) p bytes)) ∧
      (k ≠ .manage → classify s.tables k p bytes = .drop → exec (.frameArrival p bytes) s = .next (heard s p)) ∧
      let usedBy := fun hand : State → State =>
        ∃ n, exec (.frameArrival p bytes) s = .next (relayed (hand { heard s p with free := n }) p bytes) ∨
          exec (.frameArrival p bytes) s = .next (hand (relayed { heard s p with free := n } p bytes))
      (∀ q present, classify s.tables k p bytes = .point q present →
        (k = .sample → usedBy (fun u => u.takeSample q (framePayload bytes))) ∧
        (k = .presence → usedBy (fun u => u.takePresence q present))) ∧
      (∀ a, k = .feedback → classify s.tables k p bytes = .actuator a →
        usedBy (fun u => u.takeFeedback a (framePayload bytes))) ∧
      (k = .sample → p ≠ .b → s.ports.b.queue.length < 31 → ∀ q present, classify s.tables k p bytes = .point q present →
        ∃ t, exec (.frameArrival p bytes) s = .next t ∧ QEntry.relayed bytes ∈ t.ports.b.queue ∧
          t.points = (s.takeSample q (framePayload bytes)).points ∧ Acts s t))

/-- R3, R168, R169, R181: a good MANAGE frame for the part on B is the request its payload spells, with bytes beyond the
parameters not examined; a payload that spells none is the command UNKNOWN_REQUEST; RESET without its parameter is MALFORMED,
and with another than its two values OUT_OF_RANGE. That a frame's request and the request's own command are the same is the
model's reading of the rows (log 6). -/
def Obligations.RequestFrameRunsItsRequest : Prop :=
  ∀ (s : State) (channel : Byte) (payload : List Byte), s.owed = none → (s.port .b).tx = none → (s.port .b).assembly = .idle →
    payload.length ≤ 64 →
    let frame := buildFrame .manage s.tables.device.ownNode channel payload
    let u := heard s .b
    (∀ (name : Byte) (tag : Word) (params : List Byte) (c : Instr), payload = [name] ++ be16 tag ++ params →
      requestCommand name ⟨channel, tag, params⟩ = some c → exec (.frameArrival .b frame) s = exec c u) ∧
    (unknownPayload payload = true → exec (.frameArrival .b frame) s = exec (.unknownRequest channel payload) u) ∧
    ∀ (tag : Word) (params : List Byte), payload = [0x60] ++ be16 tag ++ params → params.head? ≠ some 0x01 →
      params.head? ≠ some 0x02 →
      (s.resetting ≠ none → exec (.frameArrival .b frame) s = .next u) ∧
      (serving s → exec (.frameArrival .b frame) s = .next (answered u u 0x60 ⟨channel, tag, params⟩
        (if s.save ≠ none then .busy else if params = [] then .malformed else .outOfRange) []))

/-- R15 to R19: the tests of an entry bit by bit, and the outcome of the lowest entry that a frame matches, with the fit
test. -/
def Obligations.TheFirstMatchDecides : Prop :=
  (∀ (e : ClassEntry) (k : FrameKind) (p : Port) (frame : List Byte),
    e.fitsFrame k p frame = true ↔
      (e.kind = .any ∨ (e.kind = .sample ∧ k = .sample) ∨ (e.kind = .presence ∧ k = .presence) ∨
        (e.kind = .feedback ∧ k = .feedback) ∨ (e.kind = .command ∧ k = .command)) ∧
      ((e.port = .b ∧ p = .b) ∨ (e.port = .g1 ∧ p = .g1) ∨ (e.port = .g2 ∧ p = .g2) ∨ (e.port = .anyG ∧ p ≠ .b)) ∧
      (∀ j, e.nodeMask.getLsbD j = false → (frameNode frame).getLsbD j = e.nodeValue.getLsbD j) ∧
      (∀ j, e.channelMask.getLsbD j = false → (frameChannel frame).getLsbD j = e.channelValue.getLsbD j) ∧
      (e.lengthPresent = true → frameLength frame = e.length.toNat) ∧
      (e.maskLength ≠ 0 → ∃ (i : Nat) (x y : Byte), (e.mask.take e.maskLength)[i]? = some x ∧ (framePayload frame)[i]? = some y ∧ x &&& y ≠ 0)) ∧
  ∀ (t : Tables) (k : FrameKind) (p : Port) (frame : List Byte),
    ((∀ (i : Fin 96) (e : ClassEntry), t.classifier[i] = some e → e.fitsFrame k p frame = false) →
      classify t k p frame = .unmatched) ∧
    ∀ (i : Fin 96) (e : ClassEntry), t.classifier[i] = some e → e.fitsFrame k p frame = true →
      (∀ (j : Fin 96) (x : ClassEntry), j < i → t.classifier[j] = some x → x.fitsFrame k p frame = false) →
      (∀ x, e.target = .drop x → classify t k p frame = .drop) ∧
      (∀ x, e.target = .pass x → classify t k p frame = .pass) ∧
      (∀ q, e.target = .toPoint q →
        let fits := (k = .sample ∧ ∃ m, t.points[q] = some (.meas m)) ∨ (k = .presence ∧ ∃ m, t.points[q] = some (.pres m))
        (fits → classify t k p frame = .point q e.presenceIsPresent) ∧ (¬ fits → classify t k p frame = .pass)) ∧
      (∀ a, e.target = .toActuator a →
        let fits := (k = .command ∧ t.actuators[a] ≠ none) ∨
          (k = .feedback ∧ ∃ r, t.actuators[a] = some r ∧ r.feedback ≠ none)
        (fits → classify t k p frame = .actuator a) ∧ (¬ fits → classify t k p frame = .pass))

/-! ### Governor commands (01 section 1.3, 07) -/

/-- R108, R109: a COMMAND frame used by an actuator is consumed; when it brings a value, the value limited to the kind's
range becomes requested and exactly one offer is made, with the effective level formed with it. -/
def Obligations.CommandFramesAreAnswered : Prop :=
  ∀ (s : State) (bytes : List Byte) (a : Fin 64) (r : ActRec), arrives s .b bytes .command → frameGood bytes = true →
    classify s.tables .command .b bytes = .actuator a → s.tables.actuators[a] = some r →
    (frameLength bytes < 2 → exec (.frameArrival .b bytes) s = .next (heard s .b)) ∧
    (2 ≤ frameLength bytes →
      let x := r.kind.value (framePayload bytes)
      let u := (heard s .b).setActuator a { s.actuators[a] with
        requested := some (if x < r.kind.low then r.kind.low else if r.kind.high < x then r.kind.high else x) }
      ∃ v, effectiveLevel u a r = some v ∧ exec (.frameArrival .b bytes) s = .next (u.offerGovernor a r v))

/-- R11, with R112 and R142 for a command that counts as queued: the five cases of an offer. That the step flag is TAKEN also
when sent was absent is the model's reading of R142 (log 11). -/
def Obligations.GovernorOffersTakeTheFirstCase : Prop :=
  ∀ (s : State) (a : Fin 64) (r : ActRec) (v : Int),
    let p := r.port.line
    let q := s.port p
    let none_ := fun l : List QEntry => ∀ x ∈ l, x.isGovernor a = false
    (∀ (sending pre post : List QEntry) (node : Word) (channel : Byte) (level : Int),
      q.queue = sending ++ pre ++ [.governor a node channel level] ++ post → sending.length = sendingCount q →
      none_ pre → none_ post →
      s.offerGovernor a r v =
        queuedAt (s.setPort p { q with queue := sending ++ pre ++ [.governor a node channel v] ++ post }) a r v) ∧
    (∀ (node : Word) (channel : Byte) (level : Int) (rest : List QEntry), q.tx ≠ none →
      q.queue = .governor a node channel level :: rest → none_ rest → s.offerGovernor a r v = s.setMark a true) ∧
    (none_ q.queue → q.queue.length < capacity p →
      s.offerGovernor a r v =
        queuedAt ((s.setPort p { q with queue := q.queue ++ [.governor a r.node r.channel v] }).setMark a false) a r v) ∧
    (none_ q.queue → capacity p ≤ q.queue.length →
      (∀ (sending pre post : List QEntry) (frame : List Byte), q.queue = sending ++ pre ++ [.relayed frame] ++ post →
        sending.length = sendingCount q → (∀ x ∈ pre, x.isRelayed = false) →
        s.offerGovernor a r v =
          queuedAt ((s.setPort p { q with
            queue := sending ++ pre ++ post ++ [.governor a r.node r.channel v] }).setMark a false) a r v) ∧
      ((∀ x ∈ q.queue.drop (sendingCount q), x.isRelayed = false) → s.offerGovernor a r v = s.setMark a true))

/-- R12, R147: SEND_PENDING_SERVICE takes the one service that the end of transmission before it has left owed (log 6), and
without one changes nothing. A service clears the marks of actuators not in use and serves the lowest marked actuator whose
record names the port: its mark is cleared and its effective level of the moment is offered, or nothing when none can be
formed. -/
def Obligations.SendPendingServesTheLowestMark : Prop :=
  ∀ (s : State) (g : Gallery),
    (s.owed ≠ some g → exec (.sendPendingService g) s = .next s) ∧
    (s.owed = some g → ∃ m : Vector Bool 64,
      (∀ a : Fin 64, m[a] = (s.marks[a] && s.tables.actuators[a].isSome)) ∧
      ((∀ (a : Fin 64) (r : ActRec), s.tables.actuators[a] = some r → r.port = g → s.marks[a] = false) →
        exec (.sendPendingService g) s = .next { s with marks := m, owed := none }) ∧
      ∀ (a : Fin 64) (r : ActRec), s.tables.actuators[a] = some r → r.port = g → s.marks[a] = true →
        (∀ (b : Fin 64) (x : ActRec), b < a → s.tables.actuators[b] = some x → x.port = g → s.marks[b] = false) →
        let t := ({ s with marks := m, owed := none } : State)
        (∀ v, effectiveLevel t a r = some v →
          exec (.sendPendingService g) s = .next ((t.setMark a false).offerGovernor a r v)) ∧
        (effectiveLevel t a r = none → exec (.sendPendingService g) s = .next (t.setMark a false)))

/-- R111, R131, R137: the effective level of a light is the smallest of its items, and a re-evaluation offers it exactly
under the three conditions of R111. -/
def Obligations.EffectiveLevelsAndTheSendTest : Prop :=
  ∀ (s : State) (a : Fin 64) (r : ActRec),
    (∀ o kp ki maxLevel deadband, r.kind = .spot o kp ki maxLevel deadband →
      let dark := lightMode s r.zone = .dark ∨ lightMode s r.zone = .closed
      let item := fun x : Int =>
        x = s.actuators[a].requested.getD 0 ∨ x = ((s.loops[a].u / 256 : Nat) : Int) ∨ (dark ∧ x = 0) ∨
          (s.accounts[o].state ≠ .pacing ∧ x = 0) ∨
          (lightMode s r.zone = .open ∧ s.zones[r.zone].present = false ∧ x = (standbyOf s r.zone : Int))
      ∃ e, effectiveLevel s a r = some e ∧ item e ∧ ∀ x, item x → e ≤ x) ∧
    (∀ maxLevel deadband, r.kind = .blind maxLevel deadband →
      ∃ e, effectiveLevel s a r = some e ∧
        (lightMode s r.zone = .dark ∨ lightMode s r.zone = .closed → e = 0) ∧
        (lightMode s r.zone = .open ∨ lightMode s r.zone = .inspect →
          let item := fun x : Int =>
            x = s.actuators[a].requested.getD (blindMaxOf s r.zone) ∨ x = (s.blinds[r.zone].cap : Int) ∨ x = (maxLevel : Int)
          item e ∧ ∀ x, item x → e ≤ x)) ∧
    (s.tables.actuators[a] = some r → r.kind.isLight = true → ∀ e, effectiveLevel s a r = some e →
      let offers := (∃ v, s.actuators[a].sent = some v ∧ (r.kind.deadband ≤ (e - v).natAbs ∨ (e = 0 ∧ v ≠ 0))) ∨
        (s.actuators[a].sent = none ∧ e = 0 ∧ (lightMode s r.zone = .dark ∨ lightMode s r.zone = .closed))
      (offers → s.reevaluate a = s.offerGovernor a r e) ∧ (¬ offers → s.reevaluate a = s))

/-- R114, R115: a report that agrees with sent ends AWAIT or FAULT; the timer's expiry makes FAULT from AWAIT; each change of
FAULT is an edge of source 256 + a. That the expiry is a command that acts on a timer at 0, and otherwise changes nothing, is
the model's choice (log 2). -/
def Obligations.FeedbackSupervision : Prop :=
  ∀ (s : State) (a : Fin 64),
    (s.actuators[a].state = .await → s.actuators[a].timer = some 0 →
      exec (.feedbackTimerExpiry a) s =
        .next ((s.setActuator a { s.actuators[a] with state := .fault }).edge (sourceActuator a) .enter)) ∧
    (s.actuators[a].state ≠ .await ∨ s.actuators[a].timer ≠ some 0 → exec (.feedbackTimerExpiry a) s = .next s) ∧
    ∀ (r : ActRec) (f : FeedbackRec) (payload : List Byte), s.tables.actuators[a] = some r → r.feedback = some f →
      (payload.length < 2 → s.takeFeedback a payload = s) ∧
      (2 ≤ payload.length →
        let x := r.kind.value payload
        (∀ v, s.actuators[a].sent = some v → (x - v).natAbs ≤ f.tolerance →
          let u := s.setActuator a { s.actuators[a] with feedback := some x, state := .normal, timer := none }
          s.takeFeedback a payload = if s.actuators[a].state = .fault then u.edge (sourceActuator a) .exit else u) ∧
        (s.actuators[a].sent = none ∨ (∃ v, s.actuators[a].sent = some v ∧ f.tolerance < (x - v).natAbs) →
          s.takeFeedback a payload = s.setActuator a { s.actuators[a] with feedback := some x }))

/-! ### Points (03) -/

/-- R30 to R37, R40 to R42, R47, R126: a sample at a measurement point, judged and taken by state, and the expiry of its stale
timer. No other point changes; a departure from VALID freezes the loops that follow the point; a change of the degraded
condition is an edge; and a plausible sample that leaves the point VALID is told to the light governor with the reported value
of the new Y (`State.lightSample`, of which `ValidSamplesStepTheLoops` says what it does). That the expiry is a command that
acts on a timer at 0, and otherwise changes nothing, is the model's choice (log 2). -/
def Obligations.MeasurementPointsTakeSamplesAndExpiries : Prop :=
  ∀ (s : State) (p : Fin 64) (payload : List Byte) (r : MeasRec) (d : MeasDyn),
    s.points[p] = .meas d →
    let degraded := fun x : MeasState => x = .stale ∨ x = .suspect
    (s.tables.points[p] = some (.meas r) → (d.state = .valid → d.y ≠ none) →
    ∃ n : MeasDyn, (s.takeSample p payload).points = s.points.set p (.meas n) ∧ Acts s (s.takeSample p payload) ∧
      ConditionTold (s.takeSample p payload) (sourcePoint p) (degraded d.state) (degraded n.state) ∧
      ((∀ x, ¬ BringsPlausible r d payload x) →
        (d.state = .valid → n.state ≠ .valid → (s.takeSample p payload).loops = frozenAt s p) ∧
        (d.state ≠ .valid ∨ n.state = .valid → (s.takeSample p payload).loops = s.loops) ∧
        n.lastRaw = d.lastRaw ∧ n.timer = d.timer ∧ n.errors = min (d.errors + 1) (r.errThreshold + 1) ∧
        (n.errors = r.errThreshold + 1 →
          n.state = .suspect ∧ n.y = none ∧ n.run = 0 ∧ n.held = if d.state = .valid then d.y else d.held) ∧
        (n.errors ≠ r.errThreshold + 1 → n.state = d.state ∧ n.y = d.y ∧ n.run = d.run ∧ n.held = d.held)) ∧
      (∀ x, BringsPlausible r d payload x →
        n.errors = d.errors - 1 ∧ n.lastRaw = some x ∧ n.held = d.held ∧
        n.timer = (if r.staleLimit = 0 then none else some r.staleLimit) ∧
        (d.state = .suspect → d.errors - 1 ≠ 0 → n.state = .suspect ∧ n.y = d.y ∧ n.run = d.run) ∧
        ((d.state = .suspect ∧ d.errors - 1 = 0) ∨ d.state = .stale ∨ (d.state = .warming ∧ d.y = none) →
          n.y = some (x * 256) ∧ n.run = 1 ∧ n.state = if r.warmUp ≤ 1 then MeasState.valid else .warming) ∧
        (∀ y, d.state = .warming → d.y = some y →
          n.y = some (smooth r.k y x) ∧ n.run = d.run + 1 ∧
            n.state = if r.warmUp ≤ d.run + 1 then MeasState.valid else .warming) ∧
        (∀ y, d.state = .valid → d.y = some y → n.y = some (smooth r.k y x) ∧ n.run = d.run ∧ n.state = .valid) ∧
        let u := ({ s with points := s.points.set p (.meas n) } : State)
        let told := if (d.state = .stale ∨ d.state = .suspect) ∧ n.state ≠ .suspect then u.edge (sourcePoint p) .exit else u
        (∀ y, n.state = .valid → n.y = some y → s.takeSample p payload = told.lightSample p (roundHalfAway y 256)) ∧
        (n.state ≠ .valid → s.takeSample p payload = told))) ∧
    (d.timer = some 0 → d.state = .valid →
      exec (.staleTimerExpiry p) s = .next (({ s with
        points := s.points.set p (.meas { d with state := .stale, held := d.y, y := none, run := 0 })
        loops := frozenAt s p } : State).edge (sourcePoint p) .enter)) ∧
    (d.timer = some 0 → d.state = .warming →
      exec (.staleTimerExpiry p) s = .next (({ s with
        points := s.points.set p (.meas { d with state := .stale, y := none, run := 0 }) } : State).edge
          (sourcePoint p) .enter)) ∧
    (d.timer ≠ some 0 ∨ d.state = .stale ∨ d.state = .suspect → exec (.staleTimerExpiry p) s = .next s)

/-- R38, 00_scope.md 5.3: the step is k × D / 4096 rounded half away from zero, and it never carries Y past X × 256; with
k = 4096 Y becomes X × 256. -/
def Obligations.SmoothingNeverPassesTheSample : Prop :=
  (∀ (num : Int) (den : Nat), 0 < den →
    2 * (roundHalfAway num den * den - num).natAbs ≤ den ∧
      (2 * (roundHalfAway num den * den - num).natAbs = den → num.natAbs < (roundHalfAway num den * den).natAbs)) ∧
  ∀ (k : Nat) (y x : Int), k ≤ 4096 →
    smooth k y x = y + roundHalfAway ((k : Int) * (x * 256 - y)) 4096 ∧
    min y (x * 256) ≤ smooth k y x ∧ smooth k y x ≤ max y (x * 256) ∧ smooth 4096 y x = x * 256

/-- R43 to R47, R74, R75, R77: a PRESENCE frame's reading at a presence point, the expiries of its two timers, and the expiry of
a zone's absence timer. A point that begins to count as present stops the absence timer of its zone in use and makes the
aggregate PRESENT; one that ceases to count starts the timer when no other point there counts; each change of the aggregate
re-evaluates the zone's lights. That the expiries are commands that act on a timer at 0, and otherwise change nothing, is the
model's choice (log 2). -/
def Obligations.PresencePointsTakeFramesAndExpiries : Prop :=
  (∀ (s : State) (p : Fin 64) (r : PresRec) (d : PresDyn), s.tables.points[p] = some (.pres r) → s.points[p] = .pres d →
    let z := r.zone
    let counted := d.state = .active ∧ d.reading = true
    let starts := fun (u : State) (zr : ZoneRec) =>
      ({ u with zones := s.zones.set z { s.zones[z] with absence := some (zr.absenceTimeout * 60) } } : State)
    (∀ b : Bool, ∃ n : PresDyn,
      n.reading = b ∧ n.staleTimer = (if r.staleLimit = 0 then none else some r.staleLimit) ∧
      (d.state = .active → n.state = .active ∧
        (d.reading = b → n.stuckTimer = d.stuckTimer) ∧
        (d.reading ≠ b → n.stuckTimer = if b then some (r.stuckLimit * 60) else none)) ∧
      (d.state = .stale → n.state = .active ∧ n.stuckTimer = if b then some (r.stuckLimit * 60) else none) ∧
      (d.state = .stuck → n.state = (if b then PresState.stuck else .active) ∧ (b = false → n.stuckTimer = none)) ∧
      let counts := n.state = .active ∧ b = true
      let u := ({ s with points := s.points.set p (.pres n) } : State)
      let told := fun v : State => if d.state ≠ .active ∧ n.state = .active then v.edge (sourcePoint p) .exit else v
      (s.tables.zones[z] = none ∨ (counted ↔ counts) → s.takePresence p b = told u) ∧
      ∀ zr, s.tables.zones[z] = some zr →
        (¬ counted → counts →
          let w := ({ u with zones := s.zones.set z { s.zones[z] with present := true, absence := none } } : State)
          s.takePresence p b = told (if s.zones[z].present then w else w.reevaluateAll (lightsOf w z))) ∧
        (counted → ¬ counts → (othersCount s z p → s.takePresence p b = told u) ∧
          (¬ othersCount s z p → s.takePresence p b = told (starts u zr)))) ∧
    (∀ n : PresDyn, n.state = .stuck ∨ n.state = .stale →
      let u := ({ s with points := s.points.set p (.pres n) } : State)
      let ends := fun t : State => ∃ v : State, t = (if d.state = .active then v.edge (sourcePoint p) .enter else v) ∧
        (¬ counted ∨ s.tables.zones[z] = none ∨ othersCount s z p → v = u) ∧
        (counted → ¬ othersCount s z p → ∀ zr, s.tables.zones[z] = some zr → v = starts u zr)
      (d.state = .active → d.stuckTimer = some 0 → n = { d with state := .stuck, stuckTimer := none } →
        ∃ t, exec (.stuckTimerExpiry p) s = .next t ∧ ends t) ∧
      (d.state ≠ .stale → d.staleTimer = some 0 → n = { d with state := .stale, stuckTimer := none } →
        ∃ t, exec (.presenceStaleExpiry p) s = .next t ∧ ends t)) ∧
    (d.state ≠ .active ∨ d.stuckTimer ≠ some 0 → exec (.stuckTimerExpiry p) s = .next s) ∧
    (d.state = .stale ∨ d.staleTimer ≠ some 0 → exec (.presenceStaleExpiry p) s = .next s)) ∧
  ∀ (s : State) (z : Fin 16),
    (s.tables.zones[z] ≠ none → s.zones[z].absence = some 0 →
      let u := s.setZone z { s.zones[z] with present := false, absence := none }
      exec (.absenceTimerExpiry z) s = .next (if s.zones[z].present then u.reevaluateAll (lightsOf u z) else u)) ∧
    (s.tables.zones[z] = none ∨ s.zones[z].absence ≠ some 0 → exec (.absenceTimerExpiry z) s = .next s)

/-! ### Calendar (04) -/

/-- R50, R60, and the opening of 4.1: a second of the time base advances the clock and lowers every running timer by one;
within a minute nothing else changes; during a power-on reset clock and timers stand. R51, R52, R57: at second 59 the minute
boundary, the day boundary at midnight on a set clock and a change of phase each reach the units that act on them, once, in some
order. R60, R103, R187: during a reset an act is taken at once or held, once; a phase change and every act after the reload are
taken at once, and the exposure unit and the store take theirs at once before the reset's own checkpoint starts and have them
held while it is written. That the timers of all units count on the same second, and which other acts wait, is the model's
choice (log 2, log 12). -/
def Obligations.TheClockAdvances : Prop :=
  ∀ s : State, (s.resetting = some (.reloaded .powerOn) → exec .clockAdvance s = .next s) ∧
    (s.resetting ≠ some (.reloaded .powerOn) → ∃ t, exec .clockAdvance s = .next t ∧
      t.clock.unset = s.clock.unset ∧
      t.clock.second = (if s.clock.second < 59 then s.clock.second + 1 else 0) ∧
      t.clock.minute =
        (if s.clock.second < 59 then s.clock.minute else if s.clock.minute < 1439 then s.clock.minute + 1 else 0) ∧
      t.clock.dow = (if s.clock.second < 59 ∨ s.clock.minute < 1439 then s.clock.dow
        else if s.clock.dow = 6 then 0 else s.clock.dow + 1) ∧
      t.clock.day = (if s.clock.second < 59 ∨ s.clock.minute < 1439 ∨ s.clock.day = 65535 then s.clock.day
        else s.clock.day + 1) ∧
      t.tables = s.tables ∧ t.load = s.load ∧ t.save = s.save ∧ t.resetting = s.resetting ∧ t.pending = s.pending ∧
      (∀ p : Fin 64, t.points[p] =
        match s.points[p] with
        | .unused => .unused
        | .meas d => .meas { d with timer := d.timer.map (· - 1) }
        | .pres d => .pres { d with staleTimer := d.staleTimer.map (· - 1), stuckTimer := d.stuckTimer.map (· - 1) }) ∧
      (∀ z : Fin 16, t.zones[z].absence = s.zones[z].absence.map (· - 1) ∧ t.zones[z].present = s.zones[z].present) ∧
      (∀ a : Fin 64, t.actuators[a] =
        { s.actuators[a] with timer := s.actuators[a].timer.map (· - 1), sent := t.actuators[a].sent }) ∧
      (s.clock.second < 59 →
        (∀ z : Fin 16, t.zones[z] = { s.zones[z] with absence := s.zones[z].absence.map (· - 1) }) ∧
        (∀ a : Fin 64, t.actuators[a].sent = s.actuators[a].sent) ∧
        t = { s with clock := t.clock, points := t.points, zones := t.zones, actuators := t.actuators })) ∧
    (s.resetting ≠ some (.reloaded .powerOn) → 59 ≤ s.clock.second →
      ∃ (t u : State) (order : List (Act × Bool × Nat)), exec .clockAdvance s = .next t ∧
        u = { s with clock := t.clock, points := t.points, zones := u.zones, actuators := u.actuators, phase := t.phase } ∧
        (∀ z : Fin 16, u.zones[z] = { s.zones[z] with absence := s.zones[z].absence.map (· - 1) }) ∧
        (∀ a : Fin 64, u.actuators[a] = { s.actuators[a] with timer := s.actuators[a].timer.map (· - 1) }) ∧
        t = order.foldl (fun v x => takenOrHeld v x.1 x.2.1 x.2.2) u ∧
        (order.map (·.1)).Perm
          ([.zoneMinute, .overrideMinute, .exposureMinute, .lightMinute, .climateMinute, .storeMinute t.clock.minute] ++
            (if t.clock.minute = 0 ∧ s.clock.unset = false then [.exposureDay 1, .storeDay] else []) ++
            if t.phase = s.phase then [] else [.phaseChange]) ∧
        t.held = s.held ++ (order.filter (fun x => x.2.1)).map (·.1) ∧
        ∀ x ∈ order,
          let stands := x.1 = .exposureMinute ∨ x.1 = .exposureDay 1 ∨ x.1 = .storeMinute t.clock.minute ∨ x.1 = .storeDay
          (s.resetting = none ∨ (∃ k, s.resetting = some (.reloaded k)) ∨ x.1 = .phaseChange → x.2.1 = false) ∧
          (s.resetting = some .hardWait → stands → x.2.1 = false) ∧
          (s.resetting = some .hardCheckpoint → stands → x.2.1 = true))

/-- R57: the phase at a minute boundary, at a SET_TIME and at a write of a SCHEDULE entry, and its delivery to the override
unit. R94, R127, R155, R156: what the override unit's act on it delivers to the objects, the loops and the lights; at a write of
a SCHEDULE entry and at a SET_TIME without a day boundary on a set clock that act, on a change, is all that follows. -/
def Obligations.ThePhaseIsEvaluatedAndDelivered : Prop :=
  ∀ s : State,
    PhaseFrame s s.takePhase ∧
    (∀ (i : Nat) (bs : List Byte) (t : State), s.writeEntry .schedule i bs = .ok t →
      let u := ({ s with tables := t.tables, phase := t.phase } : State)
      t = if t.phase = s.phase then u else u.takePhase) ∧
    (∀ r : Request, serving s → 6 ≤ r.params.length → (clockOf r.params).inRange = true → s.clock.unset = false →
      (clockOf r.params).day ≤ s.clock.day → ∃ p : Phase, (p = .open ↔ openAt s.tables (clockOf r.params)) ∧
        let u := ({ s with clock := clockOf r.params, phase := p } : State)
        exec (.setTime r) s =
          .next (answered s (if p = s.phase then u else u.takePhase) 0x10 r .ok (r.params.take 6 ++ [0, 0]))) ∧
    (s.resetting = none → s.clock.second = 59 → ∃ t, exec .clockAdvance s = .next t ∧ PhaseTaken s t) ∧
    (∀ r : Request, serving s → 6 ≤ r.params.length → (clockOf r.params).inRange = true →
      ∃ t, exec (.setTime r) s = .next t ∧ PhaseTaken s t) ∧
    (∀ (i : Nat) (bs : List Byte) (t : State), s.writeEntry .schedule i bs = .ok t → PhaseTaken s t)

/-- R53, R54, R59: SET_TIME sets the clock, ends CLOCK_UNSET with its edge, answers with the day difference, and leaves the
timers of points, zones and actuators, and the stacks, as they were; a missing parameter or one out of its range changes
nothing. -/
def Obligations.SetTimeSetsTheClock : Prop :=
  ∀ (s : State) (r : Request), serving s →
    (r.params.length < 6 → exec (.setTime r) s = .next (answered s s 0x10 r .malformed [])) ∧
    ∀ (d1 d0 w m1 m0 c : Byte) (rest : List Byte), r.params = [d1, d0, w, m1, m0, c] ++ rest →
      let day := (d1 ++ d0).toNat
      let minute := (m1 ++ m0).toNat
      (6 < w.toNat ∨ 1439 < minute ∨ 59 < c.toNat → exec (.setTime r) s = .next (answered s s 0x10 r .outOfRange [])) ∧
      (w.toNat ≤ 6 → minute ≤ 1439 → c.toNat ≤ 59 →
        let n := if s.clock.unset then 0 else day - s.clock.day
        ∃ u, exec (.setTime r) s = .next (answered s u 0x10 r .ok ([d1, d0, w, m1, m0, c] ++ num16 n)) ∧
          u.clock = ⟨day, w.toNat, minute, c.toNat, false⟩ ∧ u.tables = s.tables ∧ u.points = s.points ∧ u.zones = s.zones ∧
          u.overrides = s.overrides ∧ u.load = s.load ∧ u.save = s.save ∧ u.resetting = none ∧ u.pending = s.pending ∧
          (∀ a : Fin 64, u.actuators[a] = { s.actuators[a] with sent := u.actuators[a].sent }) ∧
          (s.clock.unset = true → EdgeTold u 321 .exit))

/-! ### Dose accounts (06) -/

/-- R84 to R87, R94, R97, R98, R99, R127: what one minute boundary that is not midnight does to the account of every object, its
L_perm among the rest, the edge of each change of EXHAUSTED, the changes of state told to the loops, and the loops of an object
that becomes EXHAUSTED. -/
def Obligations.AMinuteAccruesDose : Prop :=
  (∀ s : State, StatesTold s s.exposureMinute) ∧
  ∀ s : State, s.resetting = none → s.clock.second = 59 → s.clock.minute < 1439 →
    ∃ t, exec .clockAdvance s = .next t ∧ ∀ i : Fin 128,
      (s.tables.objects[i] = none → t.accounts[i] = s.accounts[i]) ∧
      ∀ (r : ObjectRec) (lux : Nat) (estimates : Bool), s.tables.objects[i] = some r → LuxOfMinute s r lux estimates →
        let x := s.accounts[i]
        let today := min (x.today + lux) 4294967295
        ∃ y, t.accounts[i] = y ∧ y.today = today ∧ y.before = x.before ∧ y.days = x.days ∧ y.allowance = x.allowance ∧
          y.lastPeriod = x.lastPeriod ∧ y.doseLost = x.doseLost ∧ y.estimated = (x.estimated || estimates) ∧
          y.state = (if r.budget * 60000 ≤ min (x.before + today) 4294967295 then ObjState.exhausted else .pacing) ∧
          (r.uv = none → y.uvHigh = false) ∧
          (∀ u, r.uv = some u →
            (∀ v, validReading s u.point .uv = some v → y.uvHigh = decide ((u.ceiling : Int) < v)) ∧
            (validReading s u.point .uv = none → y.uvHigh = x.uvHigh)) ∧
          ConditionTold t (sourceObject i) (x.state = .exhausted) (y.state = .exhausted) ∧
          LastEvaluated s t i r ∧
          (x.state ≠ .exhausted → y.state = .exhausted → ∀ a : Fin 64, ∀ maxLevel z,
            spotFields s.tables.actuators[a] = some (i, maxLevel, z) → t.loops[a].u = 0 ∧ t.loops[a].ePrev = none)

/-- R52, R54, R88, R90, R99, R100: what the day boundary of a SET_TIME to a later day does to the account of every object, and
what the two boundaries of a midnight do, in either order; with CLOCK_UNSET set a midnight is no day boundary. The end of
EXHAUSTED, and of DOSE_LOST on the last object that holds it, gives its edge. L_perm is evaluated
after either boundary (R94), and changes of state are told to the loops (R98). -/
def Obligations.ADayBoundaryRollsAccounts : Prop :=
  (∀ (s : State) (n : Nat), StatesTold s (s.exposureDay n)) ∧
  (∀ (s : State) (r : Request), serving s → 6 ≤ r.params.length → (clockOf r.params).inRange = true →
    s.clock.unset = false → s.clock.day < (clockOf r.params).day →
    ∃ t, exec (.setTime r) s = .next t ∧
      ConditionTold t 322 (∃ i : Fin 128, s.accounts[i].doseLost = true) (∃ i : Fin 128, t.accounts[i].doseLost = true) ∧
      ∀ i : Fin 128,
      ConditionTold t (sourceObject i) (s.accounts[i].state = .exhausted) (t.accounts[i].state = .exhausted) ∧
      (s.tables.objects[i] = none → t.accounts[i] = s.accounts[i]) ∧
      ∀ o : ObjectRec, s.tables.objects[i] = some o → 0 < o.budget →
        let x := s.accounts[i]
        let n := (clockOf r.params).day - s.clock.day
        let sum := min (x.before + x.today) 4294967295
        let ended := o.period ≤ x.days + n
        ∃ y, t.accounts[i] = y ∧ y.today = 0 ∧ y.estimated = false ∧ y.uvHigh = x.uvHigh ∧
          (ended → y.before = 0 ∧ y.days = 0 ∧ y.lastPeriod = sum ∧ y.doseLost = false ∧ y.state = .pacing) ∧
          (¬ ended → y.before = sum ∧ y.days = x.days + n ∧ y.lastPeriod = x.lastPeriod ∧ y.doseLost = x.doseLost ∧
            y.state = if o.budget * 60000 ≤ sum then ObjState.exhausted else x.state) ∧
          y.allowance = (o.budget * 60000 - y.before) / (o.period - y.days) ∧
          y.lPerm = permitted t o y) ∧
  ∀ s : State, s.resetting = none → s.clock.second = 59 → s.clock.minute = 1439 →
    ∃ t, exec .clockAdvance s = .next t ∧
      let comesTo := fun f : ObjectRec → Nat → Bool → Account → Account => ∀ i : Fin 128,
        (s.tables.objects[i] = none → t.accounts[i] = s.accounts[i]) ∧
        ∀ (o : ObjectRec) (lux : Nat) (estimates : Bool), s.tables.objects[i] = some o → LuxOfMinute s o lux estimates →
          t.accounts[i] =
            { f o lux estimates s.accounts[i] with lPerm := t.accounts[i].lPerm, uvHigh := t.accounts[i].uvHigh }
      (∀ (i : Fin 128) (o : ObjectRec), s.tables.objects[i] = some o → LastEvaluated s t i o) ∧
      (s.clock.unset = true → comesTo accruedWith) ∧
      (s.clock.unset = false →
        comesTo (fun o lux estimates x => rolledOver o 1 (accruedWith o lux estimates x)) ∨
          comesTo (fun o lux estimates x => accruedWith o lux estimates (rolledOver o 1 x)))

/-- R94 to R96: the permitted illuminance, by state, light mode and phase. -/
def Obligations.PermittedIlluminanceFollowsItsTable : Prop :=
  ∀ (s : State) (r : ObjectRec) (x : Account),
    (x.state ≠ .pacing ∨ lightMode s r.zone = .dark ∨ lightMode s r.zone = .closed → permitted s r x = 0) ∧
    (x.state = .pacing → lightMode s r.zone = .inspect →
      ∃ level, levelOf s.overrides[r.zone] = some level ∧ permitted s r x = level) ∧
    (x.state = .pacing → lightMode s r.zone = .open →
      let formed := fun m : Nat =>
        let paced := max (min r.ceiling ((x.allowance - x.today) / m)) r.floorLux
        let capped := match (topLight s.overrides[r.zone]).map Override.body with
          | some (.event level _) => min paced level
          | _ => paced
        if s.zones[r.zone].temp.state = .excursion ∧ s.zones[r.zone].temp.side = some .high then
          capped * factorOf s r.zone / 100
        else capped
      (s.clock.unset = true → s.phase = .open → permitted s r x = formed s.tables.device.window) ∧
      (∀ w : Fin 7, s.clock.unset = false → s.phase = .open → w.val = s.clock.dow →
        permitted s r x = formed (s.tables.week[w].closeMinute - s.clock.minute)) ∧
      (s.phase = .closed → ∀ e, topLight s.overrides[r.zone] = some e → ∀ level saved, e.body = .event level saved →
        permitted s r x = formed (e.expiry.getD 60)) ∧
      (s.phase = .closed → topLight s.overrides[r.zone] = none → permitted s r x = 0))

/-- R91, R92, R99, R100, R169: OBJECT_PERIOD_START and DOSE_SET for an object in use, with the edges of the conditions they
begin or end; a missing index or dose is answered MALFORMED, an index above 127 OUT_OF_RANGE and an object not in use
NOT_IN_USE. -/
def Obligations.PeriodStartAndDoseSetReplaceTheAccount : Prop :=
  (∀ (s : State) (r : Request), serving s → s.save = none →
    (r.params = [] → exec (.objectPeriodStart r) s = .next (answered s s 0x40 r .malformed []) ∧
      exec (.doseSet r) s = .next (answered s s 0x41 r .malformed [])) ∧
    ∀ (index : Byte) (rest : List Byte), r.params = index :: rest →
      (127 < index.toNat → exec (.objectPeriodStart r) s = .next (answered s s 0x40 r .outOfRange []) ∧
        (4 ≤ rest.length → exec (.doseSet r) s = .next (answered s s 0x41 r .outOfRange []))) ∧
      (∀ i : Fin 128, i.val = index.toNat → s.tables.objects[i] = none →
        exec (.objectPeriodStart r) s = .next (answered s s 0x40 r .notInUse []) ∧
        (4 ≤ rest.length → exec (.doseSet r) s = .next (answered s s 0x41 r .notInUse []))) ∧
      (rest.length < 4 → exec (.doseSet r) s = .next (answered s s 0x41 r .malformed []))) ∧
  ∀ (s : State) (r : Request) (i : Fin 128) (o : ObjectRec) (rest : List Byte), serving s → s.save = none →
    s.tables.objects[i] = some o →
    let x := s.accounts[i]
    let leaves := fun (y : Account) (u : State) =>
      u.accounts = s.accounts.set i { y with lPerm := permitted s o y } ∧
        ConditionTold u (sourceObject i) (x.state = .exhausted) (y.state = .exhausted) ∧
        ConditionTold u 322 (∃ j : Fin 128, s.accounts[j].doseLost = true) (∃ j : Fin 128, u.accounts[j].doseLost = true) ∧
        u = { s with accounts := u.accounts, loops := u.loops, ports := u.ports, marks := u.marks, actuators := u.actuators,
                     flags := u.flags, noticed := u.noticed, free := u.free }
    (r.params = BitVec.ofNat 8 i.val :: rest →
      ∃ u, exec (.objectPeriodStart r) s = .next (answered s u 0x40 r .ok (objectData u i)) ∧
        leaves { x with before := 0, today := 0, days := 0, allowance := o.budget * 60000 / o.period, state := .pacing,
                        estimated := false, doseLost := false } u) ∧
    ∀ dose : Quad, r.params = [BitVec.ofNat 8 i.val] ++ be32 dose ++ rest →
      ∃ u, exec (.doseSet r) s = .next (answered s u 0x41 r .ok (objectData u i)) ∧
        leaves { x with before := dose.toNat, today := 0, estimated := false,
                        allowance := (o.budget * 60000 - dose.toNat) / (o.period - x.days),
                        state := if o.budget * 60000 ≤ dose.toNat then ObjState.exhausted else .pacing } u

/-! ### Zones (05) -/

/-- R66 to R73: what a minute boundary does to a zone, and the edges of its three conditions. -/
def Obligations.AMinuteEvaluatesTheZones : Prop :=
  ∀ s : State, s.resetting = none → s.clock.second = 59 → ∃ t, exec .clockAdvance s = .next t ∧ ∀ z : Fin 16,
    let d := s.zones[z]
    t.zones[z].present = d.present ∧ t.zones[z].absence = d.absence.map (· - 1) ∧
    (s.tables.zones[z] = none → t.zones[z] = { d with absence := d.absence.map (· - 1) }) ∧
    ∀ r, s.tables.zones[z] = some r →
      t.zones[z].rhEst = estimate (validValues s z .rh) ∧ t.zones[z].tempEst = estimate (validValues s z .temp) ∧
      MachineMoves r.rh t.zones[z].rhEst d.rh t.zones[z].rh ∧ MachineMoves r.temp t.zones[z].tempEst d.temp t.zones[z].temp ∧
      t.zones[z].ring[59] = t.zones[z].rhEst ∧
      (∀ (i : Nat) (h : i < 59), t.zones[z].ring[i]'(by omega) = d.ring[i + 1]'(by omega)) ∧
      (∀ a b, t.zones[z].rhEst = some a → d.ring[0] = some b →
        t.zones[z].rate = some (a - b).natAbs ∧
        (r.rateLimit < (a - b).natAbs → t.zones[z].rateHold = true) ∧
        ((a - b).natAbs ≤ r.rateLimit → (a - b).natAbs ≤ r.rateRelease → t.zones[z].rateHold = false) ∧
        (r.rateRelease < (a - b).natAbs → (a - b).natAbs ≤ r.rateLimit → t.zones[z].rateHold = d.rateHold)) ∧
      (t.zones[z].rhEst = none ∨ d.ring[0] = none → t.zones[z].rate = none ∧ t.zones[z].rateHold = d.rateHold) ∧
      ConditionTold t (sourceRh z) (d.rh.state = .excursion) (t.zones[z].rh.state = .excursion) ∧
      ConditionTold t (sourceTemp z) (d.temp.state = .excursion) (t.zones[z].temp.state = .excursion) ∧
      ConditionTold t (sourceRateHold z) (d.rateHold = true) (t.zones[z].rateHold = true)

/-! ### Light governor (08) and climate governor (09) -/

/-- R122 to R125: a loop step, the light point a loop follows, and what a valid sample does to the loops that follow its
point, which are taken in ascending index. A record not in use holds the light point 0, its cleared encoding (R83). R125, R127:
a loop step, and the zero that a change of light mode to DARK or CLOSED or a change of the object's state away from PACING
forces, re-evaluate the SPOT actuator exactly when they change floor(U / 256). -/
def Obligations.ValidSamplesStepTheLoops : Prop :=
  (∀ (kp ki maxLevel lPerm : Nat) (lux : Int) (c : LoopCtx),
    let e := max (-32767) (min 32767 ((lPerm : Int) - lux))
    let delta := roundHalfAway ((kp : Int) * (e - c.ePrev.getD e) + (ki : Int) * e) 256
    (loopStep kp ki maxLevel lPerm lux c).ePrev = some e ∧ (loopStep kp ki maxLevel lPerm lux c).running = true ∧
    ((loopStep kp ki maxLevel lPerm lux c).u : Int) = max 0 (min ((maxLevel * 256 : Nat) : Int) ((c.u : Int) + delta)) ∧
    (c.ePrev = none → c.u ≤ maxLevel * 256 → lux ≤ lPerm → c.u ≤ (loopStep kp ki maxLevel lPerm lux c).u) ∧
    (c.ePrev = none → (lPerm : Int) ≤ lux → (loopStep kp ki maxLevel lPerm lux c).u ≤ c.u)) ∧
  ∀ (s : State) (p a : Fin 64) (lux : Int),
    (isMeasOf s p .illum = false ∨ loopPoint s a ≠ some p → (s.lightSample p lux).loops[a] = s.loops[a]) ∧
    ∀ o kp ki maxLevel deadband port node channel zone feedback,
      s.tables.actuators[a] = some ⟨.spot o kp ki maxLevel deadband, port, node, channel, zone, feedback⟩ →
      loopPoint s a = some (match s.tables.objects[o] with
        | some x => x.lightPoint
        | none => 0) ∧
      (s.tables.objects[o] = none → (s.lightSample p lux).loops[a] = s.loops[a]) ∧
      (s.tables.objects[o] ≠ none → isMeasOf s p .illum = true → loopPoint s a = some p →
      (s.accounts[o].state = .pacing → lightMode s zone = .open ∨ lightMode s zone = .inspect →
        (s.lightSample p lux).loops[a] = loopStep kp ki maxLevel s.accounts[o].lPerm lux s.loops[a]) ∧
      (s.accounts[o].state ≠ .pacing ∨ lightMode s zone = .dark ∨ lightMode s zone = .closed →
        (s.lightSample p lux).loops[a] = { s.loops[a] with running := true })) ∧
      (s.tables.objects[o] = none → s.loopSample lux a = s) ∧
      (s.tables.objects[o] ≠ none →
        (s.accounts[o].state = .pacing → lightMode s zone = .open ∨ lightMode s zone = .inspect →
          let c := loopStep kp ki maxLevel s.accounts[o].lPerm lux s.loops[a]
          let u := ({ s with loops := s.loops.set a c } : State)
          s.loopSample lux a = if c.u / 256 = s.loops[a].u / 256 then u else u.reevaluate a) ∧
        (s.accounts[o].state ≠ .pacing ∨ lightMode s zone = .dark ∨ lightMode s zone = .closed →
          s.loopSample lux a = { s with loops := s.loops.set a { s.loops[a] with running := true } })) ∧
      (isMeasOf s p .illum = true → s.lightSample p lux =
        ((List.finRange 64).filter (fun b => decide (loopPoint s b = some p))).foldl (fun u b => u.loopSample lux b) s) ∧
      (isMeasOf s p .illum = false → s.lightSample p lux = s) ∧
      let spots := fun b : Fin 64 => decide ((spotFields s.tables.actuators[b]).map (fun x => x.2.2) = some zone)
      (lightMode s zone = .open ∨ lightMode s zone = .inspect → s.lightModeAtLoops zone = s) ∧
      (lightMode s zone = .dark ∨ lightMode s zone = .closed → s.lightModeAtLoops zone =
        ({ s with loops := Vector.ofFn (fun b : Fin 64 =>
            if spots b then { s.loops[b] with u := 0, ePrev := none } else s.loops[b]) } : State).reevaluateAll
          ((List.finRange 64).filter (fun b => spots b && decide (256 ≤ s.loops[b].u)))) ∧
      ∀ out : Fin 128 → Bool,
        let struck := fun b : Fin 64 => ((spotFields s.tables.actuators[b]).map (fun x => out x.1)).getD false
        s.objectsAtLoops out =
          ({ s with loops := Vector.ofFn (fun b : Fin 64 =>
              if struck b then { s.loops[b] with u := 0, ePrev := none } else s.loops[b]) } : State).reevaluateAll
            ((List.finRange 64).filter (fun b => struck b && decide (256 ≤ s.loops[b].u)))

/-- R132 to R135: what a minute boundary at the light governor does to the blind cap and the reopen counter of a zone in DARK or
CLOSED, with excess, with quiet, and with neither; a zone not in use is passed over. A change of cap re-evaluates the zone's
blinds. At the boundary of the calendar the light governor finds L_perm, UV_HIGH, the caps of the loops and the light mode as
they stood before or after the other units' acts. -/
def Obligations.MinutesStepBlinds : Prop :=
  (∀ (s : State) (z : Fin 16),
    (s.tables.zones[z] = none → s.lightMinute.blinds[z] = s.blinds[z] ∧ s.stepBlind z = s) ∧
    ∀ r, s.tables.zones[z] = some r → BlindSteps s z r s.blinds[z] s.lightMinute.blinds[z] ∧
      ∀ b, BlindSteps s z r s.blinds[z] b →
        let u := s.setBlind z b
        s.stepBlind z = if b.cap = s.blinds[z].cap then u else u.reevaluateAll (blindsOf u z)) ∧
  ∀ s : State, s.resetting = none → s.clock.second = 59 → ∃ t u, exec .clockAdvance s = .next t ∧
    u.tables = s.tables ∧ u.points = t.points ∧
    (∀ i : Fin 128, u.accounts[i].uvHigh = s.accounts[i].uvHigh ∨ u.accounts[i].uvHigh = t.accounts[i].uvHigh) ∧
    (∀ a : Fin 64, u.loops[a].u = s.loops[a].u ∨ u.loops[a].u = t.loops[a].u) ∧
    ∀ z : Fin 16, (∀ e ∈ s.overrides[z], ∀ n, e.expiry = some n → 1 < n) →
      (lightMode u z = lightMode s z ∨ lightMode u z = lightMode t z) ∧
      (s.clock.minute < 1439 → t.phase = s.phase → ∀ (i : Fin 128) (o : ObjectRec), s.tables.objects[i] = some o → o.zone = z →
        u.accounts[i].lPerm = s.accounts[i].lPerm ∨ u.accounts[i].lPerm = t.accounts[i].lPerm) ∧
      (s.tables.zones[z] = none → t.blinds[z] = s.blinds[z]) ∧
      ∀ r, s.tables.zones[z] = some r → BlindSteps u z r s.blinds[z] t.blinds[z]

/-- R140, R141, R143, R149: the band, the target and what holds a setpoint actuator; the setpoint value lies in the band in
force, moves by at most the slew, and stands while held or TAKEN. -/
def Obligations.SetpointValuesKeepTheBandAndTheSlew : Prop :=
  ∀ (s : State) (a : Fin 64) (r : ActRec), r.kind.isLight = false →
    (s.tables.zones[r.zone] = none → targetOf s a r = s.actuators[a].requested) ∧
    (∀ zr, s.tables.zones[r.zone] = some zr →
      let band := match r.kind with
        | .rhSp _ => zr.rh
        | _ => zr.temp
      bandOf s r = (band.innerLow, band.innerHigh) ∧
        (s.actuators[a].requested = none → targetOf s a r = none) ∧
        ∀ x, s.actuators[a].requested = some x →
          targetOf s a r = some (if x < band.innerLow then band.innerLow else if band.innerHigh < x then band.innerHigh else x)) ∧
    (s.tables.zones[r.zone] = none → bandOf s r = match r.kind with
      | .rhSp _ => (0, 10000)
      | _ => (-2000, 6000)) ∧
    (isHeld s r = true ↔
      ((∃ slew, r.kind = .rhSp slew) ∧ s.zones[r.zone].rateHold = true) ∨ ∃ e ∈ s.overrides[r.zone], e.body = .climateHold) ∧
    (targetOf s a r = none → setpointValue s a r = none) ∧
    ∀ x, targetOf s a r = some x → ∃ v, setpointValue s a r = some v ∧
      ((bandOf s r).1 ≤ (bandOf s r).2 → s.tables.zones[r.zone] ≠ none → (bandOf s r).1 ≤ v ∧ v ≤ (bandOf s r).2) ∧
      (s.actuators[a].sent = none → v = x) ∧
      ∀ w, s.actuators[a].sent = some w → (bandOf s r).1 ≤ w → w ≤ (bandOf s r).2 →
        (isHeld s r = true ∨ s.flags[a] = true → v = w) ∧
        ((bandOf s r).1 ≤ x → x ≤ (bandOf s r).2 → isHeld s r = false → s.flags[a] = false →
          (v - w).natAbs ≤ r.kind.slew ∧
          ((x - w).natAbs ≤ r.kind.slew → v = x) ∧
          (r.kind.slew < (x - w).natAbs → (v - w).natAbs = r.kind.slew ∧ (v - x).natAbs + r.kind.slew = (x - w).natAbs))

/-- R141 to R145: a minute boundary clears every step flag and then steps every setpoint actuator that is free, that is, not
held and not at its target: it is offered V, and sent becomes V and the flag TAKEN when the queue takes the offer, as it does
over a waiting command for it, or else the actuator is marked. One that has no target, is held or is at its target keeps its
sent value. The holds are read before or after the other units' acts on the boundary (R145, R52). No light's flag changes. -/
def Obligations.ClimateMinutesStepSetpointsOnce : Prop :=
  ∀ s : State, s.resetting = none → s.clock.second = 59 → ∃ t, exec .clockAdvance s = .next t ∧
    ∀ (a : Fin 64) (r : ActRec), s.tables.actuators[a] = some r →
      (r.kind.isLight = true → t.flags[a] = s.flags[a]) ∧
      (r.kind.isLight = false → ∃ rate hold : Bool,
        (rate = rateHeld s r ∨ rate = rateHeld t r) ∧
        (hold = holdOf s.overrides[r.zone] ∨ hold = holdOf t.overrides[r.zone]) ∧
        let stands := t.actuators[a].sent = s.actuators[a].sent ∧ t.flags[a] = false
        (targetOf s a r = none ∨ rate = true ∨ hold = true ∨ (∃ x, targetOf s a r = some x ∧ s.actuators[a].sent = some x) →
          stands) ∧
        ∀ x, rate = false → hold = false → targetOf s a r = some x → s.actuators[a].sent ≠ some x →
          ∃ v : Int,
            (s.actuators[a].sent = none → v = x) ∧
            (∀ w, s.actuators[a].sent = some w →
              let near := if (x - w).natAbs ≤ r.kind.slew then x else if w < x then w + r.kind.slew else w - r.kind.slew
              v = if near < (bandOf s r).1 then (bandOf s r).1 else if (bandOf s r).2 < near then (bandOf s r).2 else near) ∧
            let taken := t.actuators[a].sent = some v ∧ (t.flags[a] = true ↔ s.actuators[a].sent ≠ some v)
            (taken ∨ (stands ∧ t.marks[a] = true)) ∧
            ((∃ e ∈ (s.port r.port.line).waiting, e.isGovernor a = true) → taken))

/-! ### Overrides (10) -/

/-- R157, R158: an OVERRIDE_PUSH that passes its checks appends one entry at the top, with the blind cap of the moment in a
light-kind entry, and delivers the changes as `OverrideFrame` says; one that fails is refused with the status of the first
check it fails. Presence bytes other than 0 and 1, and payloads too short, follow log 10 and log 11; the codes of the climate
hold are log 16. -/
def Obligations.PushesAppendOneEntry : Prop :=
  ∀ (s : State) (r : Request), serving s →
    (r.params.length < 8 → exec (.overridePush r) s = .next (answered s s 0x30 r .malformed [])) ∧
    ∀ (zone kind tag ef ex lf l1 l0 : Byte) (rest : List Byte), r.params = [zone, kind, tag, ef, ex, lf, l1, l0] ++ rest →
      let level := (l1 ++ l0).toNat
      let missing := ((kind = 1 ∨ kind = 2) ∧ lf = 0) ∨ ((kind = 3 ∨ kind = 4) ∧ lf = 1)
      let outside := 15 < zone.toNat ∨ kind = 0 ∨ 4 < kind.toNat ∨ tag = 0 ∨ 1 < ef.toNat ∨ 1 < lf.toNat ∨ (ef = 1 ∧ ex = 0) ∨
        (kind = 1 ∧ ¬ (50 ≤ level ∧ level ≤ 2000)) ∨ (kind = 2 ∧ ¬ (1 ≤ level ∧ level ≤ 1000))
      (missing → exec (.overridePush r) s = .next (answered s s 0x30 r .malformed [])) ∧
      (¬ missing → outside → exec (.overridePush r) s = .next (answered s s 0x30 r .outOfRange [])) ∧
      (¬ missing → ¬ outside → ∀ z : Fin 16, z.val = zone.toNat →
        (s.tables.zones[z] = none → exec (.overridePush r) s = .next (answered s s 0x30 r .notInUse [])) ∧
        (s.tables.zones[z] ≠ none → 4 ≤ s.overrides[z].length →
          exec (.overridePush r) s = .next (answered s s 0x30 r .stackFull [])) ∧
        (s.tables.zones[z] ≠ none → s.overrides[z].length < 4 →
          ∃ (e : Override) (u : State), e.tag = tag ∧ e.expiry = (if ef = 1 then some (min ex.toNat 240) else none) ∧
            (kind = 1 → e.body = .inspection level s.blinds[z].cap) ∧ (kind = 2 → e.body = .event level s.blinds[z].cap) ∧
            (kind = 3 → e.body = .dark s.blinds[z].cap) ∧ (kind = 4 → e.body = .climateHold) ∧
            u.overrides[z] = s.overrides[z] ++ [e] ∧ u.blinds[z] = s.blinds[z] ∧ OverrideFrame s u z ∧
            exec (.overridePush r) s = .next (answered s u 0x30 r .ok
              (num8 (s.overrides[z].length + 1) ++ num8 (lightMode u z).code ++ flag8 (holdOf u.overrides[z])))))

/-- R159, R161, R162: OVERRIDE_POP removes the top entry when the tag is 0 or the entry's own, and hands its saved blind cap to
the zone; OVERRIDE_CLEAR empties the stack, and the value that reaches the zone is that of the lowest light-kind entry. The
changes are delivered as `OverrideFrame` says. -/
def Obligations.PopsAndClearsHandOverTheSavedCap : Prop :=
  ∀ (s : State) (r : Request), serving s →
    (r.params.length < 2 → exec (.overridePop r) s = .next (answered s s 0x31 r .malformed [])) ∧
    (∀ (zone tag : Byte) (rest : List Byte), r.params = [zone, tag] ++ rest →
      (15 < zone.toNat → exec (.overridePop r) s = .next (answered s s 0x31 r .outOfRange [])) ∧
      ∀ z : Fin 16, z.val = zone.toNat →
        (s.overrides[z] = [] → exec (.overridePop r) s = .next (answered s s 0x31 r .stackEmpty [])) ∧
        ∀ (below : List Override) (e : Override), s.overrides[z] = below ++ [e] →
          (tag ≠ 0 → tag ≠ e.tag → exec (.overridePop r) s = .next (answered s s 0x31 r .notOwner [])) ∧
          (tag = 0 ∨ tag = e.tag → ∃ u : State, u.overrides[z] = below ∧ OverrideFrame s u z ∧
            u.blinds[z] = (match e.body.saved with
              | some c => handed s z c
              | none => s.blinds[z]) ∧
            exec (.overridePop r) s = .next (answered s u 0x31 r .ok (overrideData e ++ num8 (lightMode u z).code)))) ∧
    (r.params = [] → exec (.overrideClear r) s = .next (answered s s 0x33 r .malformed [])) ∧
    ∀ (zone : Byte) (rest : List Byte), r.params = zone :: rest →
      (15 < zone.toNat → exec (.overrideClear r) s = .next (answered s s 0x33 r .outOfRange [])) ∧
      ∀ z : Fin 16, z.val = zone.toNat → ∃ u : State, u.overrides[z] = [] ∧ OverrideFrame s u z ∧
        exec (.overrideClear r) s = .next (answered s u 0x33 r .ok (num8 s.overrides[z].length)) ∧
        (s.overrides[z] = [] → exec (.overrideClear r) s = .next (answered s s 0x33 r .ok [0x00])) ∧
        ((∀ x ∈ s.overrides[z], x.body.isLight = false) → u.blinds[z] = s.blinds[z]) ∧
        ∀ plain l above c, s.overrides[z] = plain ++ [l] ++ above → (∀ x ∈ plain, x.body.isLight = false) →
          l.body.saved = some c → u.blinds[z] = handed s z c

/-- R160, R162: OVERRIDE_CANCEL removes the topmost entry with the tag; its saved blind cap goes to the nearest light-kind
entry above it, and to the zone when there is none. The changes are delivered as `OverrideFrame` says. -/
def Obligations.CancelsSpliceTheSavedCap : Prop :=
  ∀ (s : State) (r : Request), serving s →
    (r.params.length < 2 → exec (.overrideCancel r) s = .next (answered s s 0x32 r .malformed [])) ∧
    ∀ (zone tag : Byte) (rest : List Byte), r.params = [zone, tag] ++ rest →
      (15 < zone.toNat ∨ tag = 0 → exec (.overrideCancel r) s = .next (answered s s 0x32 r .outOfRange [])) ∧
      ∀ z : Fin 16, z.val = zone.toNat → tag ≠ 0 →
        ((∀ x ∈ s.overrides[z], x.tag ≠ tag) → exec (.overrideCancel r) s = .next (answered s s 0x32 r .notFound [])) ∧
        ∀ (below above : List Override) (e : Override), s.overrides[z] = below ++ [e] ++ above → e.tag = tag →
          (∀ x ∈ above, x.tag ≠ tag) →
          ∃ u : State, OverrideFrame s u z ∧
            exec (.overrideCancel r) s =
              .next (answered s u 0x32 r .ok (overrideData e ++ num8 below.length ++ num8 (lightMode u z).code)) ∧
            (e.body.saved = none → u.overrides[z] = below ++ above ∧ u.blinds[z] = s.blinds[z]) ∧
            (∀ c, e.body.saved = some c → (∀ x ∈ above, x.body.isLight = false) →
              u.overrides[z] = below ++ above ∧ u.blinds[z] = handed s z c) ∧
            (∀ c plain l post, e.body.saved = some c → above = plain ++ [l] ++ post → (∀ x ∈ plain, x.body.isLight = false) →
              l.body.isLight = true →
              u.overrides[z] = below ++ plain ++ [{ l with body := l.body.withSaved c }] ++ post ∧ u.blinds[z] = s.blinds[z])

/-- R162, R163, R164: at a minute boundary every expiry falls by 1 and the entries at 0 leave, in every zone, each zone that
loses one with its edge; the others keep their order, kinds, tags and levels. Each saved blind cap that leaves goes to the
nearest light-kind entry above that stays, or to the zone (`expiredOut`). The zones are taken in ascending index, each with
its edge, its hand-over and its deliveries as `OverrideFrame` says, of which log 14 speaks. At the boundary of the calendar
the light governor steps the blinds of all zones before the override unit's act or after it. -/
def Obligations.MinutesExpireOverrides : Prop :=
  (∀ s : State,
    (∀ z : Fin 16,
      ((∀ e ∈ s.overrides[z], e.expiry ≠ some 0) → s.expireZone z = s) ∧
      ((∃ e ∈ s.overrides[z], e.expiry = some 0) →
        OverrideFrame (s.edge (sourceExpired z) .enter) (s.expireZone z) z ∧
        (s.expireZone z).overrides[z] = (expiredOut none s.overrides[z]).1 ∧
        (s.expireZone z).blinds[z] = handedOver s z (expiredOut none s.overrides[z]).2)) ∧
    s.overrideMinute = (List.finRange 16).foldl State.expireZone { s with
      overrides := Vector.ofFn (fun z : Fin 16 => s.overrides[z].map (fun e => { e with expiry := e.expiry.map (· - 1) })) }) ∧
  ∀ s : State, s.resetting = none → s.clock.second = 59 → ∃ t u, exec .clockAdvance s = .next t ∧
    u.tables = s.tables ∧ u.points = t.points ∧
    (∀ i : Fin 128, u.accounts[i].uvHigh = s.accounts[i].uvHigh ∨ u.accounts[i].uvHigh = t.accounts[i].uvHigh) ∧
    (∀ a : Fin 64, u.loops[a].u = s.loops[a].u ∨ u.loops[a].u = t.loops[a].u) ∧
    (u.overrides = s.overrides ∨ u.overrides = t.overrides) ∧ (u.heldPhase = s.heldPhase ∨ u.heldPhase = t.heldPhase) ∧
    ∀ z : Fin 16,
    let counted := s.overrides[z].map (fun e => { e with expiry := e.expiry.map (· - 1) })
    t.overrides[z].map unsaved = (counted.filter (fun e => e.expiry != some 0)).map unsaved ∧
    ((∃ e ∈ counted, e.expiry = some 0) → EdgeTold t (sourceExpired z) .enter) ∧
    t.overrides[z] = (expiredOut none counted).1 ∧
    (s.tables.zones[z] = none → t.blinds[z] = handedOver s z (expiredOut none counted).2) ∧
    ∀ r, s.tables.zones[z] = some r →
      ((expiredOut none counted).2 = none → BlindSteps u z r s.blinds[z] t.blinds[z]) ∧
      ∀ c, (expiredOut none counted).2 = some c →
        (u.overrides = s.overrides ∧ t.blinds[z] = handed s z c) ∨
          (u.overrides = t.overrides ∧ BlindSteps u z r (handed s z c) t.blinds[z])

/-! ### Requests and notices (11) -/

/-- R48, R101, R171: the replies of QUERY_DEVICE, QUERY_OBJECT and QUERY_POINT, item by item; nothing else changes. The items
that a point does not hold, and the status of a missing source byte, are log 11. -/
def Obligations.DeviceObjectAndPointQueries : Prop :=
  ∀ (s : State) (r : Request), serving s →
    exec (.queryDevice r) s = .next (answered s s 0x01 r .ok
      ([0x01, 0x03] ++ be16 s.tables.device.ownNode ++ num16 s.clock.day ++ num8 s.clock.dow ++ num16 s.clock.minute ++
        num8 s.clock.second ++
        num8 ((if s.clock.unset then 1 else 0) + (if s.store.imageFault ∨ s.store.ckptFault then 2 else 0) +
          (if s.save ≠ none then 4 else 0) + (if s.load ≠ none then 8 else 0)) ++
        (match s.load with
          | none => [0, 0, 0, 0, 0, 0]
          | some c => num8 c.table.code ++ num16 c.next ++ [if c.up then 0x01 else 0xFF] ++ num16 c.remaining) ++
        num16 s.noticed.length)) ∧
    (r.params = [] → exec (.queryObject r) s = .next (answered s s 0x04 r .malformed [])) ∧
    (∀ (index : Byte) (rest : List Byte), r.params = index :: rest →
      (127 < index.toNat → exec (.queryObject r) s = .next (answered s s 0x04 r .outOfRange [])) ∧
      ∀ i : Fin 128, i.val = index.toNat →
        let x := s.accounts[i]
        exec (.queryObject r) s = .next (answered s s 0x04 r .ok
          (be32 (match s.tables.objects[i] with
              | some o => o.id
              | none => 0) ++
            ([match x.state with
              | .unused => 0x00
              | .pacing => 0x01
              | .exhausted => 0x02] : List Byte) ++
            num32 x.before ++ num32 x.today ++ num16 x.days ++ num32 x.allowance ++ num32 x.lastPeriod ++ num16 x.lPerm ++
            num8 ((if x.estimated then 1 else 0) + (if x.doseLost then 2 else 0) + (if x.uvHigh then 4 else 0))))) ∧
    (r.params.length < 2 → exec (.queryPoint r) s = .next (answered s s 0x02 r .malformed [])) ∧
    ∀ (index source : Byte) (rest : List Byte), r.params = [index, source] ++ rest →
      (63 < index.toNat → exec (.queryPoint r) s = .next (answered s s 0x02 r .outOfRange [])) ∧
      ∀ p : Fin 64, p.val = index.toNat →
        (s.points[p] = .unused →
          exec (.queryPoint r) s = .next (answered s s 0x02 r .ok (List.replicate 18 0))) ∧
        (∀ d, s.points[p] = .pres d → exec (.queryPoint r) s = .next (answered s s 0x02 r .ok
          (([match d.state with
            | .stale => 0x03
            | .active => 0x05
            | .stuck => 0x06] : List Byte) ++ List.replicate 16 0 ++ [if d.reading then 0x01 else 0x00]))) ∧
        ∀ d, s.points[p] = .meas d →
          let state : Byte := match d.state with
            | .warming => 0x01
            | .valid => 0x02
            | .stale => 0x03
            | .suspect => 0x04
          let counts := opt16 (d.held.map (fun y => roundHalfAway y 256))
          (source = 1 → exec (.queryPoint r) s = .next (answered s s 0x02 r .ok
            ([state] ++ opt16 (d.y.map (fun y => roundHalfAway y 256)) ++ opt32 d.y ++ counts ++ [0, 0, 0] ++
              num8 d.errors ++ num8 d.run ++ [0]))) ∧
          (source = 2 → exec (.queryPoint r) s = .next (answered s s 0x02 r .ok
            ([state] ++ [0, 0, 0] ++ [0, 0, 0, 0, 0] ++ counts ++ opt16 d.lastRaw ++ num8 d.errors ++ num8 d.run ++ [0]))) ∧
          (source ≠ 1 → source ≠ 2 → exec (.queryPoint r) s = .next (answered s s 0x02 r .outOfRange []))

/-- R116, R139, R151: the reply of QUERY_ACTUATOR by kind and view; nothing else changes. The codes of in use and SEND_PENDING
are log 16. -/
def Obligations.ActuatorQueries : Prop :=
  ∀ (s : State) (r : Request), serving s →
    (r.params.length < 2 → exec (.queryActuator r) s = .next (answered s s 0x03 r .malformed [])) ∧
    ∀ (index view : Byte) (rest : List Byte), r.params = [index, view] ++ rest →
      (63 < index.toNat → exec (.queryActuator r) s = .next (answered s s 0x03 r .outOfRange [])) ∧
      ∀ a : Fin 64, a.val = index.toNat →
        let marked : Byte := if s.marks[a] then 0x01 else 0x00
        (s.tables.actuators[a] = none → exec (.queryActuator r) s = .next (answered s s 0x03 r .ok
          (List.replicate 15 0 ++ [marked] ++ List.replicate 13 0))) ∧
        ∀ x, s.tables.actuators[a] = some x →
          (view ≠ 1 → view ≠ 2 → exec (.queryActuator r) s = .next (answered s s 0x03 r .outOfRange [])) ∧
          (view = 1 ∨ view = 2 →
            let d := s.actuators[a]
            let front := fun (kind : Byte) (cap : Option Int) =>
              [0x01, kind, match d.state with
                | .normal => 0x00
                | .await => 0x01
                | .fault => 0x02] ++ opt16 d.requested ++ opt16 (if view = 1 then d.sent else d.feedback) ++ opt16 cap ++
                opt16 (effectiveLevel s a x) ++ [marked] ++ opt16 (d.timer.map (fun n => (n : Int)))
            let holds := fun rate : Bool => num8 ((if rate then 1 else 0) + (if holdOf s.overrides[x.zone] then 2 else 0))
            (∀ o kp ki maxLevel deadband, x.kind = .spot o kp ki maxLevel deadband →
              exec (.queryActuator r) s = .next (answered s s 0x03 r .ok
                (front 0x01 (some ((s.loops[a].u / 256 : Nat) : Int)) ++ num32 s.loops[a].u ++ opt16 s.loops[a].ePrev ++
                  [if s.loops[a].running then 0x01 else 0x00] ++ [0, 0]))) ∧
            (∀ maxLevel deadband, x.kind = .blind maxLevel deadband →
              exec (.queryActuator r) s = .next (answered s s 0x03 r .ok
                (front 0x02 (some (s.blinds[x.zone].cap : Int)) ++ List.replicate 10 0))) ∧
            (∀ slew, x.kind = .rhSp slew →
              exec (.queryActuator r) s = .next (answered s s 0x03 r .ok
                (front 0x03 (targetOf s a x) ++ List.replicate 8 0 ++ [if s.flags[a] then 0x01 else 0x00] ++
                  holds s.zones[x.zone].rateHold))) ∧
            (∀ slew, x.kind = .tempSp slew →
              exec (.queryActuator r) s = .next (answered s s 0x03 r .ok
                (front 0x04 (targetOf s a x) ++ List.replicate 8 0 ++ [if s.flags[a] then 0x01 else 0x00] ++ holds false))))

/-- R78, R139, R166: the reply of QUERY_ZONE, item by item; nothing else changes. The codes of in use, RATE_HOLD and climate
hold are log 16. -/
def Obligations.ZoneQueries : Prop :=
  ∀ (s : State) (r : Request), serving s →
    (r.params = [] → exec (.queryZone r) s = .next (answered s s 0x05 r .malformed [])) ∧
    ∀ (index : Byte) (rest : List Byte), r.params = index :: rest →
      (15 < index.toNat → exec (.queryZone r) s = .next (answered s s 0x05 r .outOfRange [])) ∧
      ∀ z : Fin 16, z.val = index.toNat →
        let d := s.zones[z]
        let machine := fun m : CondMachine =>
          ([match m.state with
            | .unknown => 0x00
            | .inBand => 0x01
            | .drift => 0x02
            | .excursion => 0x03
            | .recovering => 0x04, match m.side with
            | none => 0x00
            | some .high => 0x01
            | some .low => 0x02] : List Byte) ++ num8 m.hold
        let bit := fun b : Bool => if b then (0x01 : Byte) else 0x00
        exec (.queryZone r) s = .next (answered s s 0x05 r .ok
          ([bit (s.tables.zones[z] != none)] ++ opt16 d.rhEst ++ opt16 d.tempEst ++ machine d.rh ++ machine d.temp ++
            opt16 (d.rate.map (fun n => (n : Int))) ++ [bit d.rateHold, bit d.present] ++
            opt8 (d.absence.map (fun n => (n + 59) / 60)) ++ num16 s.blinds[z].cap ++ num8 s.blinds[z].reopen ++
            ([match lightMode s z with
              | .open => 0x01
              | .closed => 0x02
              | .inspect => 0x03
              | .dark => 0x04, match s.heldPhase with
              | .open => 0x01
              | .closed => 0x02] : List Byte) ++
            opt16 ((levelOf s.overrides[z]).map (fun n => (n : Int))) ++ [bit (holdOf s.overrides[z])] ++
            num8 s.overrides[z].length ++ s.overrides[z].flatMap (fun e =>
              ([match e.body with
                | .inspection _ _ => 0x01
                | .event _ _ => 0x02
                | .dark _ => 0x03
                | .climateHold => 0x04, e.tag] : List Byte) ++ num8 (e.expiry.getD 0) ++ num16 (e.body.level.getD 0) ++
                (match e.body.saved with
                  | some c => num16 c
                  | none => [0xFF, 0xFF]))))

/-- R172, R174, R175: LOAD_OPEN, LOAD_ABORT and READ_ENTRY. -/
def Obligations.LoadsOpenAndCloseAndEntriesRead : Prop :=
  ∀ (s : State) (r : Request), serving s →
    (s.load = none → exec (.loadAbort r) s = .next (answered s s 0x22 r .loadNotOpen [])) ∧
    (∀ c, s.load = some c → exec (.loadAbort r) s =
      .next (answered s { s with load := none } 0x22 r .ok (num8 c.table.code ++ num16 c.next ++ num16 c.remaining))) ∧
    (r.params.length < 3 → exec (.readEntry r) s = .next (answered s s 0x23 r .malformed [])) ∧
    (∀ (code i1 i0 : Byte) (rest : List Byte), r.params = [code, i1, i0] ++ rest →
      (∀ table bytes, tableOfCode code.toNat = some table → readEntry s.tables table (i1 ++ i0).toNat = some bytes →
        exec (.readEntry r) s = .next (answered s s 0x23 r .ok bytes)) ∧
      (tableOfCode code.toNat = none ∨
          (∃ table, tableOfCode code.toNat = some table ∧ table.size ≤ (i1 ++ i0).toNat) →
        exec (.readEntry r) s = .next (answered s s 0x23 r .outOfRange []))) ∧
    (s.save = none → (r.params.length < 6 → exec (.loadOpen r) s = .next (answered s s 0x20 r .malformed [])) ∧
      ∀ (code s1 s0 step c1 c0 : Byte) (rest : List Byte), r.params = [code, s1, s0, step, c1, c0] ++ rest →
        let start := (s1 ++ s0).toNat
        let count := (c1 ++ c0).toNat
        let last : Int := if step = 1 then start + (count - 1) else start - (count - 1)
        (s.load ≠ none → exec (.loadOpen r) s = .next (answered s s 0x20 r .loadAlreadyOpen [])) ∧
        (s.load = none → tableOfCode code.toNat = none ∨ (step ≠ 1 ∧ step ≠ 0xFF) ∨ count = 0 →
          exec (.loadOpen r) s = .next (answered s s 0x20 r .outOfRange [])) ∧
        ∀ table, s.load = none → tableOfCode code.toNat = some table → step = 1 ∨ step = 0xFF → 0 < count →
          (start < table.size → 0 ≤ last → last < table.size →
            exec (.loadOpen r) s = .next (answered s { s with load := some ⟨table, start, step == 1, count⟩ } 0x20 r .ok
              [code, s1, s0, step, c1, c0])) ∧
          (table.size ≤ start ∨ last < 0 ∨ (table.size : Int) ≤ last →
            exec (.loadOpen r) s = .next (answered s s 0x20 r .outOfRange [])))

/-- R173: LOAD_ENTRY writes one entry, answers with its index and the remaining count, and moves or closes the load; every
other entry of every table reads as before. A refused entry changes nothing. A NOTICE entry of one byte is never refused. A
DEVICE entry takes effect with the write: a port whose line rate changes takes it at once with its assembly DISCARDING, or at
the end of the transmission in progress (R13). With no load open the answer is LOAD_NOT_OPEN whatever the entry (log 11). -/
def Obligations.LoadEntriesWriteOneEntry : Prop :=
  ∀ (s : State) (r : Request), serving s → s.save = none →
    (s.load = none → exec (.loadEntry r) s = .next (answered s s 0x21 r .loadNotOpen [])) ∧
    ∀ c, s.load = some c →
      (∀ st, s.writeEntry c.table c.next r.params = .error st →
        (st = .malformed ∨ st = .outOfRange) ∧ exec (.loadEntry r) s = .next (answered s s 0x21 r st [])) ∧
      (∀ t, s.writeEntry c.table c.next r.params = .ok t →
        exec (.loadEntry r) s = .next (answered s { t with
            load := if c.remaining ≤ 1 then none
              else some { c with next := if c.up then c.next + 1 else c.next - 1, remaining := c.remaining - 1 } }
          0x21 r .ok (num16 c.next ++ num16 (c.remaining - 1))) ∧
        (∀ (table : TableName) (i : Nat), c.next < c.table.size → table ≠ c.table ∨ i ≠ c.next →
          readEntry t.tables table i = readEntry s.tables table i) ∧
        t.clock = s.clock ∧ t.save = s.save ∧ t.overrides = s.overrides ∧ t.store = s.store ∧ t.resetting = s.resetting ∧
        t.pending = s.pending) ∧
      (∀ (i : Fin 324) (e : Byte) (rest : List Byte), c.table = .notice → c.next = i.val → r.params = e :: rest →
        exec (.loadEntry r) s = .next (answered s { s with
            tables := { s.tables with notices := s.tables.notices.set i ⟨e.getLsbD 0, e.getLsbD 1⟩ }
            load := if c.remaining ≤ 1 then none
              else some { c with next := if c.up then c.next + 1 else c.next - 1, remaining := c.remaining - 1 } }
          0x21 r .ok (num16 c.next ++ num16 (c.remaining - 1)))) ∧
      ∀ e : DeviceEntry, c.table = .device → decodeDevice r.params = .ok e →
        let port := fun (q : PortState) (was rate : LineRate) =>
          if was = rate then q
          else if q.tx = none then { q with assembly := .discarding, rate := rate, rateDue := false }
          else { q with rateDue := true }
        let d := s.tables.device
        exec (.loadEntry r) s = .next (answered s { s with
            tables := { s.tables with device := e }
            ports := ⟨port s.ports.b d.rateB e.rateB, port s.ports.g1 d.rateG1 e.rateG1, port s.ports.g2 d.rateG2 e.rateG2⟩
            load := if c.remaining ≤ 1 then none
              else some { c with next := if c.up then c.next + 1 else c.next - 1, remaining := c.remaining - 1 } }
          0x21 r .ok (num16 c.next ++ num16 (c.remaining - 1)))

/-- R29, R42, R46, R47, R64, R76, R77: a write of a POINT entry starts the point afresh. Its departure from VALID freezes the
loops that follow it, the degraded condition ends with its edge, and each zone in use takes the change of its presence points:
left with none it is PRESENT with the absence timer stopped, and its lights are re-evaluated when it was ABSENT. -/
def Obligations.PointWritesStartThePointAfresh : Prop :=
  ∀ (s : State) (p : Fin 64) (bs : List Byte) (r : Option PointRec), decodePoint bs = .ok r →
    let timer := fun n : Nat => if n = 0 then none else some n
    let fresh := match r with
      | none => PointDyn.unused
      | some (.meas x) => .meas ⟨.warming, none, none, none, 0, 0, timer x.staleLimit⟩
      | some (.pres x) => .pres ⟨.active, false, timer x.staleLimit, none⟩
    let valid := ∃ d, s.points[p] = .meas d ∧ d.state = .valid
    let degraded := (∃ d, s.points[p] = .meas d ∧ (d.state = .stale ∨ d.state = .suspect)) ∨
      ∃ d, s.points[p] = .pres d ∧ (d.state = .stuck ∨ d.state = .stale)
    let emptied := fun z : Fin 16 => namesZone s.tables.points[p] z ∧ ¬ namesZone r z ∧ ¬ othersIn s z p ∧
      s.tables.zones[z] ≠ none ∧ s.zones[z].present = false
    ∃ (loops : Vector LoopCtx 64) (zones : Vector ZoneDyn 16),
      (valid → loops = frozenAt s p) ∧ (¬ valid → loops = s.loops) ∧
      (∀ z : Fin 16, (s.tables.zones[z] = none → zones[z] = s.zones[z]) ∧
        ∀ zr, s.tables.zones[z] = some zr → ZoneTakesPoint s p r z zr s.zones[z] zones[z]) ∧
      let w := ({ s with tables := { s.tables with points := s.tables.points.set p r }, points := s.points.set p fresh
                         loops := loops, zones := zones } : State)
      ∃ v, ((∀ z, ¬ emptied z) → v = w) ∧ (∀ z, emptied z → v = w.reevaluateAll (lightsOf w z)) ∧
        (degraded → s.writeEntry .point p.val bs = .ok (v.edge (sourcePoint p) .exit)) ∧
        (¬ degraded → s.writeEntry .point p.val bs = .ok v)

/-- R62, R63, R76, R77, R136: a write of a ZONE entry keeps the dynamic state of a zone in use and limits its blind cap; a zone
that enters use is settled by its presence points; one written out of use takes the values of a reset, with the edges of the
conditions that end. A change of the aggregate re-evaluates the zone's lights and one of the cap its blinds, in either order.
Nothing else changes. That record, aggregate and cap are in place before the first of the two is log 14. -/
def Obligations.ZoneWritesKeepOrSettleTheZone : Prop :=
  ∀ (s : State) (z : Fin 16) (bs : List Byte) (r : Option ZoneRec), decodeZone bs = .ok r →
    ∃ (t : State) (d : ZoneDyn) (b : BlindState), s.writeEntry .zone z.val bs = .ok t ∧
      (r = none → d = .unused ∧ b = ⟨0, 0⟩) ∧
      (∀ x old, r = some x → s.tables.zones[z] = some old →
        d = s.zones[z] ∧ b = ⟨min s.blinds[z].cap x.blindMax, s.blinds[z].reopen⟩) ∧
      (∀ x, r = some x → s.tables.zones[z] = none → b = ⟨0, 0⟩ ∧
        let members := fun q : Fin 64 => namesZone s.tables.points[q] z
        ((∃ q, members q) → (∀ q, members q → s.points[q].counts = false) →
          d = { ZoneDyn.unused with absence := some (x.absenceTimeout * 60) }) ∧
        ((∀ q, ¬ members q) ∨ (∃ q, members q ∧ s.points[q].counts = true) → d = .unused)) ∧
      let w := ({ s with tables := { s.tables with zones := s.tables.zones.set z r }, zones := s.zones.set z d
                         blinds := s.blinds.set z b } : State)
      t = { w with ports := t.ports, marks := t.marks, flags := t.flags, actuators := t.actuators, noticed := t.noticed
                   free := t.free } ∧
      ConditionTold t (sourceRh z) (s.zones[z].rh.state = .excursion) (d.rh.state = .excursion) ∧
      ConditionTold t (sourceTemp z) (s.zones[z].temp.state = .excursion) (d.temp.state = .excursion) ∧
      ConditionTold t (sourceRateHold z) (s.zones[z].rateHold = true) (d.rateHold = true) ∧
      (∀ x, x ∈ s.noticed → x ∈ t.noticed) ∧
      (d.present = s.zones[z].present → b.cap = s.blinds[z].cap → NoOffer w t) ∧
      (d.present = s.zones[z].present → b.cap ≠ s.blinds[z].cap → NoOffer (w.reevaluateAll (blindsOf w z)) t) ∧
      (d.present ≠ s.zones[z].present → b.cap = s.blinds[z].cap → NoOffer (w.reevaluateAll (lightsOf w z)) t) ∧
      (d.present ≠ s.zones[z].present → b.cap ≠ s.blinds[z].cap →
        NoOffer ((w.reevaluateAll (lightsOf w z)).reevaluateAll (blindsOf w z)) t ∨
          NoOffer ((w.reevaluateAll (blindsOf w z)).reevaluateAll (lightsOf w z)) t)

/-- R81 to R83, R98 to R100, R127: a write of an OBJECT entry whose named records fit starts the account afresh under a new
catalogue id, keeps it under the same one and ends it with id 0. A change of state to other than PACING forces the object's
loops to 0 and re-evaluates the lights whose cap changes, and each condition that begins or ends gives its edge. -/
def Obligations.ObjectWritesStartKeepOrEndTheAccount : Prop :=
  ∀ (s : State) (i : Fin 128) (bs : List Byte) (r : Option ObjectRec), decodeObject bs = .ok r →
    (∀ o, r = some o → ObjectLinksFit s.tables o) →
    ∃ (t : State) (y : Account), s.writeEntry .object i.val bs = .ok t ∧
      (r = none → y = ⟨0, 0, 0, 0, 0, 0, .unused, false, false, false⟩) ∧
      (∀ o old, r = some o → s.tables.objects[i] = some old → old.id = o.id →
        y = { s.accounts[i] with days := min s.accounts[i].days (o.period - 1) }) ∧
      (∀ o, r = some o → s.tables.objects[i] = none ∨ (∃ old, s.tables.objects[i] = some old ∧ old.id ≠ o.id) →
        y = ⟨0, 0, 0, o.budget * 60000 / o.period, 0, permitted t o y, .pacing, false, false, false⟩) ∧
      let out := y.state ≠ s.accounts[i].state ∧ y.state ≠ .pacing
      (∀ a : Fin 64, t.loops[a] =
        if out ∧ (spotFields s.tables.actuators[a]).map (·.1) = some i then { s.loops[a] with u := 0, ePrev := none }
        else s.loops[a]) ∧
      let w := ({ s with tables := { s.tables with objects := s.tables.objects.set i r }, accounts := s.accounts.set i y
                         loops := t.loops } : State)
      let moved := (List.finRange 64).filter (fun a => t.loops[a].u / 256 != s.loops[a].u / 256)
      t = { w with ports := t.ports, marks := t.marks, flags := t.flags, actuators := t.actuators, noticed := t.noticed
                   free := t.free } ∧
      NoOffer (w.reevaluateAll moved) t ∧
      ConditionTold t (sourceObject i) (s.accounts[i].state = .exhausted) (y.state = .exhausted) ∧
      ConditionTold t 322 (∃ j : Fin 128, s.accounts[j].doseLost = true) (∃ j : Fin 128, t.accounts[j].doseLost = true) ∧
      ∀ x, x ∈ s.noticed → x ∈ t.noticed

/-- R106, R115, R129, R142, R150, and the last part of R12: a write of an ACTUATOR entry keeps requested, sent, supervision,
step flag and U under the same identity and clears them under another; it re-evaluates a light once and no setpoint actuator;
then a mark left on the actuator is served when the queue of its port holds no entry. -/
def Obligations.ActuatorWritesKeepOrClearTheActuator : Prop :=
  ∀ (s : State) (a : Fin 64) (bs : List Byte) (r : Option ActRec), decodeActuator bs = .ok r →
    let kept := keepsIdentity s.tables.actuators[a] r
    let x := s.actuators[a]
    ∃ (d : ActDyn) (c : LoopCtx) (flag : Bool),
      (¬ kept → d = ⟨none, none, none, .normal, none⟩ ∧ flag = false) ∧
      (kept → flag = s.flags[a] ∧ ∀ y, r = some y →
        (y.feedback ≠ none → d = x) ∧ (y.feedback = none → d = ⟨x.requested, x.sent, none, .normal, none⟩)) ∧
      (spotFields r = none → c = ⟨0, none, false⟩) ∧
      (∀ o maxLevel zone, spotFields r = some (o, maxLevel, zone) →
        let off := s.accounts[o].state ≠ .pacing ∨ lightMode s zone = .dark ∨ lightMode s zone = .closed
        (kept → ¬ off → c = ⟨min s.loops[a].u (256 * maxLevel), none, false⟩) ∧ (¬ kept ∨ off → c = ⟨0, none, false⟩)) ∧
      let w := ({ s with tables := { s.tables with actuators := s.tables.actuators.set a r }, loops := s.loops.set a c
                         flags := s.flags.set a flag, actuators := s.actuators.set a d } : State)
      let told := if x.state = .fault ∧ d.state ≠ .fault then w.edge (sourceActuator a) .exit else w
      let u := told.reevaluate a
      (r = none ∨ (∃ y, r = some y ∧ y.kind.isLight = false) → u = told) ∧
      (r = none → s.writeEntry .actuator a.val bs = .ok u) ∧
      ∀ y, r = some y →
        (u.marks[a] = false ∨ (u.port y.port.line).queue ≠ [] → s.writeEntry .actuator a.val bs = .ok u) ∧
        (u.marks[a] = true → (u.port y.port.line).queue = [] →
          (∀ v, effectiveLevel u a y = some v →
            s.writeEntry .actuator a.val bs = .ok ((u.setMark a false).offerGovernor a y v)) ∧
          (effectiveLevel u a y = none → s.writeEntry .actuator a.val bs = .ok (u.setMark a false)))

/-- R21 to R24, R28, R56, R61, R80, R105, R176: which entries are refused. One too short is MALFORMED; one that breaks a
condition of its table is OUT_OF_RANGE, and what is written meets every condition, with the records it names as they stood
before the write; every entry that meets them is accepted, and every entry that says In use = no is accepted whatever else it
holds. -/
def Obligations.EntriesAreAcceptedByTheirRules : Prop :=
  ∀ s : State,
    (∀ (table : TableName) (i : Nat) (bs : List Byte), i < table.size →
      (bs.length < entryLength table i → s.writeEntry table i bs = .error .malformed) ∧
      (entryLength table i ≤ bs.length →
        s.writeEntry table i bs = .error .outOfRange ∨
          ∃ t, s.writeEntry table i bs = .ok t ∧ EntryFits s.tables t.tables table i)) ∧
    let accepts := fun (table : TableName) (i : Nat) (bs : List Byte) => ∃ t, s.writeEntry table i bs = .ok t
    (∀ e : DeviceEntry, DeviceFits e → accepts .device 0 (encodeDevice e)) ∧
    (∀ (i : Fin 96) (e : ClassEntry), ClassFits s.tables e →
      s.writeEntry .classifier i.val (encodeClass (some e)) =
        .ok { s with tables := { s.tables with classifier := s.tables.classifier.set i (some e) } }) ∧
    (∀ (p : Fin 64) (r : PointRec), PointFits r → accepts .point p.val (encodePoint (some r))) ∧
    (∀ (a : Fin 64) (r : ActRec), ActuatorFits r → accepts .actuator a.val (encodeActuator (some r))) ∧
    (∀ (i : Fin 128) (o : ObjectRec), ObjectFits s.tables o → accepts .object i.val (encodeObject (some o))) ∧
    (∀ (z : Fin 16) (r : ZoneRec), ZoneFits r → accepts .zone z.val (encodeZone (some r))) ∧
    (∀ (w : Fin 7) (e : WeekEntry), WeekFits e → accepts .schedule w.val (encodeWeek e)) ∧
    (∀ (h : Fin 16) (day : Nat), day ≤ 65535 → accepts .schedule (7 + h.val) (encodeHoliday (some day))) ∧
    ∀ (table : TableName) (i : Nat) (bs : List Byte), i < table.size → entryLength table i ≤ bs.length →
      ((table = .classifier ∨ table = .actuator) ∧ (bs.getD 0 0).getLsbD 0 = false) ∨
        ((table = .point ∨ table = .zone ∨ (table = .schedule ∧ 7 ≤ i)) ∧ bs.getD 0 0 = 0) ∨
        (table = .object ∧ bs.take 4 = [0, 0, 0, 0]) ∨ table = .notice →
      accepts table i bs

/-- R169, R170, R181: the busy set while a SAVE is in flight, a request refused for its name or its shortness, RESET without a
fitting parameter, and requests while a reset is in progress. -/
def Obligations.RequestsAreRefusedWithoutEffect : Prop :=
  ∀ (s : State) (r : Request),
    (serving s → s.save ≠ none →
      exec (.loadOpen r) s = .next (answered s s 0x20 r .busy []) ∧
      exec (.loadEntry r) s = .next (answered s s 0x21 r .busy []) ∧
      exec (.objectPeriodStart r) s = .next (answered s s 0x40 r .busy []) ∧
      exec (.doseSet r) s = .next (answered s s 0x41 r .busy []) ∧
      exec (.saveConfig r) s = .next (answered s s 0x51 r .busy []) ∧
      exec (.resetHard r.channel r.tag) s = .next (answered s s 0x60 r .busy []) ∧
      exec (.resetSoft r.channel r.tag) s = .next (answered s s 0x60 r .busy [])) ∧
    (serving s → ∀ payload : List Byte, payload.length < 3 →
      exec (.unknownRequest r.channel payload) s = .next (answered s s (payload.getD 0 0)
        { r with tag := payload.getD 1 0 ++ payload.getD 2 0 } .malformed [])) ∧
    (serving s → ∀ name : Byte, requestCodes.contains name = false →
      exec (.unknownRequest r.channel ([name] ++ be16 r.tag ++ r.params)) s =
        .next (answered s s name r .unknownRequest [])) ∧
    (serving s → s.save = none → (r.params = [] → s.onReset r = answered s s 0x60 r .malformed []) ∧
      ∀ x : Byte, r.params.head? = some x → x ≠ 1 → x ≠ 2 → s.onReset r = answered s s 0x60 r .outOfRange []) ∧
    (s.resetting ≠ none → ∀ (name : Byte) (c : Instr), requestCommand name r = some c → exec c s = .next s)

/-- R177, R178, R179: an enabled edge of a source that is not pending joins the pending set in its place and offers one
NOTICE frame; any other edge does nothing; COLLECT_NOTICES takes the sixteen lowest entries out. The codes of
MORE are log 16. -/
def Obligations.NoticesJoinAndAreCollected : Prop :=
  ∀ s : State,
    (∀ (src : Fin 324) (e : Edge),
      let enabled := (e = .enter ∧ s.tables.notices[src].enter = true) ∨ (e = .exit ∧ s.tables.notices[src].exit = true)
      let isIn := ∃ x, (src, x) ∈ s.noticed
      (¬ enabled ∨ isIn → s.edge src e = s) ∧
      (enabled → ¬ isIn → ∃ l : List (Fin 324 × Edge), (∀ x, x ∈ l ↔ x = (src, e) ∨ x ∈ s.noticed) ∧
        (PendingSound s → l.Pairwise (fun x y => x.1 < y.1)) ∧
        let body := [0x07] ++ be16 s.tables.device.ownNode ++ [0x00, 0x03] ++ num16 src.val ++
          [if e = .enter then 0x01 else 0x02]
        s.edge src e = { s with
          noticed := l
          ports := { s.ports with b := joined 32 (.notice ([0x7E] ++ body ++ be16 (crc body))) s.ports.b } })) ∧
    ∀ r : Request, serving s →
      exec (.collectNotices r) s = .next (answered s { s with noticed := s.noticed.drop 16 } 0x50 r .ok
        (num8 (min 16 s.noticed.length) ++ [if 16 < s.noticed.length then 0x01 else 0x00] ++
          (s.noticed.take 16).flatMap (fun x => num16 x.1.val ++ [if x.2 = .enter then 0x01 else 0x02])))

/-! ### The store and the resets (12) -/

/-- R183, R186: when a save is accepted, starts and ends, and what its end leaves. The model's choices: a start or an end that
nothing waits for changes nothing (log 6), and the edge of source 320 is delivered before the REPLY is offered (log 11). -/
def Obligations.SavesStartAndEnd : Prop :=
  ∀ s : State,
    (∀ r : Request, serving s → s.save = none →
      let reply := some ⟨s.tables.device.ownNode, r.channel, r.tag⟩
      (s.store.write = .none → exec (.saveConfig r) s =
        .next { s with save := reply, store := { s.store with write := .save s.tables, saveWaiting := false } }) ∧
      (s.store.write ≠ .none → exec (.saveConfig r) s =
        .next { s with save := reply, store := { s.store with saveWaiting := true } })) ∧
    (s.store.write = .none → s.store.saveWaiting = true → exec .saveStart s =
      .next { s with store := { s.store with write := .save s.tables, saveWaiting := false } }) ∧
    (s.store.write ≠ .none ∨ s.store.saveWaiting = false → exec .saveStart s = .next s) ∧
    ∀ ok : Bool,
      ((∀ copy, s.store.write ≠ .save copy) → exec (.saveEnd ok) s = .next s) ∧
      ∀ (copy : Tables) (q : SaveReply), s.store.write = .save copy → s.save = some q → s.resetting = none →
        s.store.saveWaiting = false →
        ∃ check : Word, (check = imageCheck copy ↔ ok = true) ∧
          let u := storeEdge (s.store.imageFault || s.store.ckptFault)
            { s with store := { s.store with image := ⟨copy, check⟩, write := .none, imageFault := !ok } }
          let v := { replying u q.node q.channel 0x51 q.tag (if ok then .ok else .storeFault) [] with save := none }
          exec (.saveEnd ok) s = .next (if s.store.due then
              { v with store := { v.store with write := .checkpoint (ckptCopy s), due := false } }
            else v)

/-- R184, R185: when a checkpoint falls due, when it starts, what it copies, and what its end leaves: the slot of an object's
newest good record is not overwritten, every record of the write has the same generation, and a record that reads back different
leaves a check that does not hold. At a boundary the copy is of the accounts before or after an act of the exposure unit. That a
start or an end that nothing waits for changes nothing, and that a midnight on a free write path starts one write and leaves
another due, are the model's choices (log 6, log 15). -/
def Obligations.CheckpointsKeepTheNewestRecord : Prop :=
  ∀ s : State,
    (∀ i : Fin 128, (ckptCopy s)[i] =
      match s.tables.objects[i] with
      | none => ⟨0, 0, 0, 0, 0, 0, false, false⟩
      | some r =>
        let x := s.accounts[i]
        ⟨r.id, x.before, x.today, x.days, x.allowance, x.lastPeriod, x.estimated, x.doseLost⟩) ∧
    (s.store.write = .none → s.store.saveWaiting = false → s.store.due = true → exec .checkpointStart s =
      .next { s with store := { s.store with write := .checkpoint (ckptCopy s), due := false } }) ∧
    (s.store.write ≠ .none ∨ s.store.saveWaiting = true ∨ s.store.due = false → exec .checkpointStart s = .next s) ∧
    (let fallsDue := fun (t : State) (copies : Vector CkptData 128 → Prop) (again : Bool) =>
      (s.store.write = .none → s.store.saveWaiting = false → ∃ copy, copies copy ∧
        t.store = { s.store with write := .checkpoint copy, due := again }) ∧
      (s.store.write ≠ .none ∨ s.store.saveWaiting = true → t.store = { s.store with due := true })
    (s.resetting = none → s.clock.second = 59 → ∃ t, exec .clockAdvance s = .next t ∧
      let minute := if s.clock.minute < 1439 then s.clock.minute + 1 else 0
      let beforeOrAfter := fun copy => copy = ckptCopy s ∨ copy = ckptCopy t
      let between := fun copy => ∃ u : State, copy = ckptCopy u ∧ u.tables = s.tables ∧
        let comesTo := fun f : ObjectRec → Nat → Bool → Account → Account =>
          ∀ (i : Fin 128) (o : ObjectRec) (lux : Nat) (estimates : Bool), s.tables.objects[i] = some o →
            LuxOfMinute s o lux estimates → u.accounts[i] =
              { f o lux estimates s.accounts[i] with lPerm := u.accounts[i].lPerm, uvHigh := u.accounts[i].uvHigh }
        comesTo accruedWith ∨ comesTo (fun o _ _ x => rolledOver o 1 x)
      (minute % 10 ≠ 0 → t.store = s.store) ∧
      (minute % 10 = 0 → s.clock.minute < 1439 ∨ s.clock.unset = true → fallsDue t beforeOrAfter false) ∧
      (1439 ≤ s.clock.minute → s.clock.unset = false →
        fallsDue t (fun copy => beforeOrAfter copy ∨ between copy) true)) ∧
    ∀ r : Request, serving s → 6 ≤ r.params.length → (clockOf r.params).inRange = true →
      ∃ t, exec (.setTime r) s = .next t ∧
        (s.clock.unset = true ∨ (clockOf r.params).day ≤ s.clock.day → t.store = s.store) ∧
        (s.clock.unset = false → s.clock.day < (clockOf r.params).day →
          fallsDue t (fun copy => copy = ckptCopy s ∨ copy = ckptCopy t) false)) ∧
    ∀ bad : List (Fin 128),
      ((∀ copy, s.store.write ≠ .checkpoint copy) → exec (.checkpointWriteEnd bad) s = .next s) ∧
      ∀ copy : Vector CkptData 128, s.store.write = .checkpoint copy → s.resetting = none →
        ∃ (slots : Vector Slots 128) (g : Quad),
          (∀ i : Fin 128,
            (∀ c, s.store.slots[i].newest = some c → slots[i].slot0 = some c ∨ slots[i].slot1 = some c) ∧
            (slots[i].slot0 = s.store.slots[i].slot0 ∨ slots[i].slot1 = s.store.slots[i].slot1) ∧
            (s.store.slots[i] = ⟨none, none⟩ → slots[i].slot1 = none) ∧
            (i ∉ bad → slots[i].slot0 = some ⟨g, copy[i]⟩ ∨ slots[i].slot1 = some ⟨g, copy[i]⟩) ∧
            (i ∈ bad → slots[i].slot0 = none ∨ slots[i].slot1 = none) ∧
            (i ∈ bad → s.store.slots[i] = ⟨none, none⟩ → slots[i] = ⟨none, none⟩)) ∧
          ((∀ i : Fin 128, s.store.slots[i] = ⟨none, none⟩) → g = 1) ∧
          (∀ m : Nat, m < 2147483647 →
            (∀ (i : Fin 128) (c : Ckpt), s.store.slots[i].slot0 = some c ∨ s.store.slots[i].slot1 = some c →
              c.generation.toNat ≤ m) →
            (∃ (i : Fin 128) (c : Ckpt), (s.store.slots[i].slot0 = some c ∨ s.store.slots[i].slot1 = some c) ∧
              c.generation.toNat = m) →
            g.toNat = m + 1) ∧
          let u := storeEdge (s.store.imageFault || s.store.ckptFault)
            { s with store := { s.store with slots := slots, write := .none, ckptFault := decide (bad ≠ []) } }
          exec (.checkpointWriteEnd bad) s = .next (
            if s.store.saveWaiting then { u with store := { u.store with write := .save s.tables, saveWaiting := false } }
            else if s.store.due then { u with store := { u.store with write := .checkpoint (ckptCopy s), due := false } }
            else u)

/-- R102, R103, R104, R121, R180, R182, R187, R188, R189: what the reload of each reset leaves, and the edges it leaves for
the completion; the events held for the reload are taken after it, each once, in the order they came; a checkpoint write that
a power-on reset stops leaves the records written, those torn and those not begun as `SlotFilled` says; at a soft reset an
account whose id is unchanged is kept and another comes from the allowance, and after power-on an account comes from the
newest good record with its id, or else from the allowance. When within a reset the units take their values is log 12; a
record and an image whose check fails are log 9. -/
def Obligations.ReloadsTakeTheImage : Prop :=
  ∀ s : State,
    (∀ (channel : Byte) (tag : Word), serving s → s.save = none → s.store.write = .none → s.store.due = false →
      ∃ t, exec (.resetSoft channel tag) s = .next t ∧ Reloaded .soft s t ∧
        ∀ (i : Fin 128) (o : ObjectRec), t.tables.objects[i] = some o →
          (∀ r, s.tables.objects[i] = some r → o.id = r.id → t.accounts[i] =
            { s.accounts[i] with days := min s.accounts[i].days (o.period - 1), lPerm := t.accounts[i].lPerm }) ∧
          (o.id ≠ 0 → s.tables.objects[i] = none ∨ (∃ r, s.tables.objects[i] = some r ∧ o.id ≠ r.id) →
            t.accounts[i] = allowanceAccount t.tables.device.allowance o t.accounts[i].lPerm)) ∧
    (∀ (copy : Vector CkptData 128) (bad : List (Fin 128)), s.resetting = some .hardCheckpoint →
      s.store.write = .checkpoint copy → ∃ t, t.held = [] ∧
        exec (.checkpointWriteEnd bad) s = .next (s.held.foldl State.take t) ∧
        Reloaded .hard { s with store := s.store.afterCheckpoint copy bad } t) ∧
    (∀ (copy : Vector CkptData 128) (bad : List (Fin 128)), s.resetting = some .softWait →
      s.store.write = .checkpoint copy → s.store.due = false → ∃ t, t.held = [] ∧
        exec (.checkpointWriteEnd bad) s = .next (s.held.foldl State.take t) ∧
        Reloaded .soft { s with store := s.store.afterCheckpoint copy bad } t) ∧
    ∀ written torn : List (Fin 128), ∃ t, exec (.powerOnReset written torn) s = .next t ∧
      Reloaded .powerOn { s with store := s.store.stopped written torn } t ∧
      (∀ copy, s.store.write = .save copy → t.tables = factoryTables ∧ t.store.imageFault = true) ∧
      (∀ (i : Fin 128) (c : Ckpt), s.store.slots[i].newest = some c →
        t.store.slots[i].slot0 = some c ∨ t.store.slots[i].slot1 = some c) ∧
      ((∀ copy, s.store.write ≠ .checkpoint copy) → t.store.slots = s.store.slots) ∧
      (∀ copy, s.store.write = .checkpoint copy → ∃ g, WriteGeneration s.store.slots g ∧ ∀ i : Fin 128,
        (i ∈ torn → SlotFilled s.store.slots[i] t.store.slots[i] none) ∧
        (i ∉ torn → i ∈ written → SlotFilled s.store.slots[i] t.store.slots[i] (some ⟨g, copy[i]⟩)) ∧
        (i ∉ torn → i ∉ written → t.store.slots[i] = s.store.slots[i])) ∧
      ∀ (i : Fin 128) (o : ObjectRec), t.tables.objects[i] = some o →
        (∀ c, t.store.slots[i].newest = some c → c.data.id = o.id →
          t.accounts[i] = ⟨c.data.before, c.data.today, min c.data.days (o.period - 1), c.data.allowance, c.data.lastPeriod,
            t.accounts[i].lPerm,
            if o.budget * 60000 ≤ min (c.data.before + c.data.today) 4294967295 then .exhausted else .pacing,
            c.data.estimated, c.data.doseLost, false⟩) ∧
        (t.store.slots[i].newest = none ∨ (∃ c, t.store.slots[i].newest = some c ∧ c.data.id ≠ o.id) →
          t.accounts[i] = allowanceAccount t.tables.device.allowance o t.accounts[i].lPerm)

/-- R103, R187: across a hard reset whose checkpoint succeeds, the account of an object whose catalogue id the reload leaves
comes back as it stood, except that UV_HIGH is cleared. The generations in the store are far from wrapping. -/
def Obligations.HardResetsGiveTheAccountsBack : Prop :=
  ∀ (s : State) (channel : Byte) (tag : Word), serving s → s.save = none → s.store.write = .none →
    (∀ (i : Fin 128) (c : Ckpt), s.store.slots[i].slot0 = some c ∨ s.store.slots[i].slot1 = some c →
      c.generation.toNat < 2147483646) →
    ∃ t u, exec (.resetHard channel tag) s = .next t ∧ exec (.checkpointWriteEnd []) t = .next u ∧
      u.resetting = some (.reloaded .hard) ∧ u.store.ckptFault = false ∧
      ∀ (i : Fin 128) (r o : ObjectRec), s.tables.objects[i] = some r → u.tables.objects[i] = some o → o.id = r.id →
        let x := s.accounts[i]
        u.accounts[i] = { x with
          days := min x.days (o.period - 1)
          lPerm := u.accounts[i].lPerm
          state := if o.budget * 60000 ≤ min (x.before + x.today) 4294967295 then .exhausted else .pacing
          uvHigh := false }

/-- R14, R119, R180, R181, R184, R187 to R189: what an accepted RESET does at once (a hard reset behind a write in progress
makes checkpoint due yes), what the end of the checkpoint write that it
waited for does (a hard reset starts its own checkpoint, a soft reset goes on to a checkpoint due; `ReloadsTakeTheImage` has
the ends that a reload follows), and what the completion of a reset does: it re-evaluates the lights in use in ascending index
and delivers the edges that the reset has left and RESTARTED. The model's choices: ports run at the rates of the DEVICE entry
from the acceptance on (log 12), and without a reset reloaded the command of the completion changes nothing (log 6). -/
def Obligations.ResetsBeginAndComplete : Prop :=
  (∀ (s : State) (channel : Byte) (tag : Word), serving s → s.save = none →
    let port := fun rate : LineRate => (⟨.discarding, [], none, false, rate, false⟩ : PortState)
    let d := s.tables.device
    let begun := fun stage : ResetStage => { s with
      ports := ⟨port d.rateB, port d.rateG1, port d.rateG2⟩
      marks := Vector.replicate 64 false
      owed := none
      load := none
      resetting := some stage
      deferred := []
      held := [] }
    let checkpoint := fun t : State => { t with store := { s.store with write := .checkpoint (ckptCopy s), due := false } }
    (s.store.write = .none → exec (.resetHard channel tag) s = .next (checkpoint (begun .hardCheckpoint))) ∧
    (s.store.write ≠ .none →
      exec (.resetHard channel tag) s = .next { begun .hardWait with store := { s.store with due := true } } ∧
      exec (.resetSoft channel tag) s = .next (begun .softWait)) ∧
    (s.store.write = .none → s.store.due = true → exec (.resetSoft channel tag) s = .next (checkpoint (begun .softWait))) ∧
    (s.store.write = .none → s.store.due = false → ∃ t, exec (.resetSoft channel tag) s = .next t ∧
      t.resetting = some (.reloaded .soft))) ∧
  ∀ s : State,
    (∀ (copy : Vector CkptData 128) (bad : List (Fin 128)), s.store.write = .checkpoint copy →
      let st := s.store.afterCheckpoint copy bad
      let next := { s with
        store := { st with write := .checkpoint (ckptCopy s), due := false }
        deferred := s.deferred ++ faultEdge (s.store.imageFault || s.store.ckptFault) (s.store.imageFault || decide (bad ≠ [])) }
      (s.resetting = some .hardWait →
        exec (.checkpointWriteEnd bad) s = .next { next with resetting := some .hardCheckpoint }) ∧
      (s.resetting = some .softWait → s.store.due = true → exec (.checkpointWriteEnd bad) s = .next next)) ∧
    ((∀ k, s.resetting ≠ some (.reloaded k)) → exec .resetComplete s = .next s) ∧
    ∀ k, s.resetting = some (.reloaded k) → ∃ t, exec .resetComplete s = .next t ∧
      let u := ({ s.reevaluateAll (actuatorsWhere s (fun r => r.kind.isLight)) with deferred := [], resetting := none } : State)
      NoOffer u t ∧
      EdgeTold t 323 .enter ∧
      (∀ x, x ∈ s.noticed → x ∈ t.noticed) ∧
      (∀ src e, (src, e) ∈ s.deferred → EdgeTold t src e) ∧
      t = { u with ports := t.ports, noticed := t.noticed, free := t.free } ∧
      (s.deferred = [] → t = u.edge 323 .enter)

/-! ### Encodings (13.3, R191) -/

/-- Every table entry that its checks accept decodes from its encoding to itself. -/
def Obligations.EntriesDecodeFromTheirEncodings : Prop :=
  (∀ e : DeviceEntry, e.valid = true → decodeDevice (encodeDevice e) = .ok e) ∧
  (∀ e : ClassEntry, e.valid = true → e.mask.length = 8 → decodeClass (encodeClass (some e)) = .ok (some e)) ∧
  (∀ r : MeasRec, r.valid = true → decodePoint (encodePoint (some (.meas r))) = .ok (some (.meas r))) ∧
  (∀ r : PresRec, r.valid = true → decodePoint (encodePoint (some (.pres r))) = .ok (some (.pres r))) ∧
  (∀ r : ActRec, (match r.kind with
      | .spot _ kp ki maxLevel deadband =>
        kp ≤ 65535 ∧ ki ≤ 65535 ∧ 1 ≤ maxLevel ∧ maxLevel ≤ 1000 ∧ 1 ≤ deadband ∧ deadband ≤ 100
      | .blind maxLevel deadband => 1 ≤ maxLevel ∧ maxLevel ≤ 1000 ∧ 1 ≤ deadband ∧ deadband ≤ 100
      | .rhSp slew => 1 ≤ slew ∧ slew ≤ 500
      | .tempSp slew => 1 ≤ slew ∧ slew ≤ 500) →
    (∀ f, r.feedback = some f → f.tolerance ≤ 100 ∧ 5 ≤ f.timeout ∧ f.timeout ≤ 600) →
    decodeActuator (encodeActuator (some r)) = .ok (some r)) ∧
  (∀ r : ObjectRec, r.valid = true → r.id ≠ 0 → decodeObject (encodeObject (some r)) = .ok (some r)) ∧
  (∀ r : ZoneRec, r.valid = true → decodeZone (encodeZone (some r)) = .ok (some r)) ∧
  (∀ e : WeekEntry, e.valid = true → decodeWeek (encodeWeek e) = .ok e) ∧
  (∀ day : Nat, day ≤ 65535 → decodeHoliday (encodeHoliday (some day)) = .ok (some day)) ∧
  (∀ e : NoticeEntry, decodeNotice (encodeNotice e) = .ok e) ∧
  decodeClass (encodeClass none) = .ok none ∧ decodePoint (encodePoint none) = .ok none ∧
  decodeActuator (encodeActuator none) = .ok none ∧ decodeObject (encodeObject none) = .ok none ∧
  decodeZone (encodeZone none) = .ok none ∧ decodeHoliday (encodeHoliday none) = .ok none

/-- R24, R175, R191: an entry that LOAD_ENTRY has written is read back in the bytes it was written with, with the flag bits
that no table names at zero, and an entry written not in use in its cleared encoding. -/
def Obligations.WrittenEntriesReadBack : Prop :=
  ∀ (s t : State) (table : TableName) (i : Nat) (bs : List Byte), (table = .device → i = 0) →
    s.writeEntry table i bs = .ok t → readEntry t.tables table i = some (asWritten table i bs)

/-! ### Invariants that every step keeps -/

/-- The invariants hold after reset. -/
def Obligations.ResetMeetsTheInvariants : Prop :=
  QueuesSound .reset ∧ ClockSound .reset ∧ StacksSound .reset ∧ PendingSound .reset ∧ LoopsSound .reset ∧ StoreSound .reset ∧
    PointsSound .reset ∧ AccountsSound .reset ∧ ZonesSound .reset ∧ ActuatorsSound .reset ∧ BlindsSound .reset ∧ OwedSound .reset

/-- R6: no queue passes its capacity, holds a class that does not enter it, or two GOVERNOR entries for one actuator. R12: a
service that an end of transmission has left owed is taken by the very next step (log 6). -/
def Obligations.StepsKeepTheQueuesSound : Prop :=
  ∀ s t : State, step s = .next t → (QueuesSound s → QueuesSound t) ∧ (OwedSound s → OwedSound t)

/-- The clock stays within the ranges of its fields (04 section 4.1), and the pending set holds each source at most once, in
ascending order (R177). -/
def Obligations.StepsKeepTheClockAndThePendingSetSound : Prop :=
  ∀ s t : State, step s = .next t → (ClockSound s → ClockSound t) ∧ (PendingSound s → PendingSound t)

/-- R153, 10 section 10.1: every stack holds at most four entries, each with tag, expiry, level and saved blind cap within
their permitted values. 08 section 8.1: every blind cap is at most its zone's blind maximum, and 0 in a zone not in use. -/
def Obligations.StepsKeepTheStacksAndBlindsSound : Prop :=
  ∀ s t : State, BlindsSound s → step s = .next t → BlindsSound t ∧ (StacksSound s → StacksSound t)

/-- R130: every loop stays within its max level, and stands at 0 while its object is not PACING or its zone is dark. -/
def Obligations.StepsKeepTheLoopsSound : Prop := ∀ s t : State, LoopsSound s → step s = .next t → LoopsSound t

/-- R170, R183, R184: SAVE in flight and the write path agree, and a reset waits only for a checkpoint. -/
def Obligations.StepsKeepTheWritePathSound : Prop := ∀ s t : State, StoreSound s → step s = .next t → StoreSound t

/-- R32, R38: every measurement point's error count and smoothed value stay within their bounds. -/
def Obligations.StepsKeepThePointsSound : Prop := ∀ s t : State, PointsSound s → step s = .next t → PointsSound t

/-- R63, R83, R136, 07 section 7.3: a zone, an object and an actuator not in use hold no values, an object in use is not
UNUSED, and a feedback timer runs exactly in AWAIT and FAULT. -/
def Obligations.StepsKeepUnusedRecordsEmpty : Prop :=
  ∀ s t : State, step s = .next t →
    (ZonesSound s → ZonesSound t) ∧ (ActuatorsSound s → ActuatorsSound t) ∧ (AccountsSound s → AccountsSound t)
end

