-- ==== Sys2Proof/Laws/Exec.lean ====
section
/-! SUPPORT. What each command answers, by its shared operation: one lemma per constructor, true by definition. -/

namespace Sys2Proof.Machine

@[simp] theorem exec_frameArrival (p : Port) (bytes : List Byte) (s : State) :
    exec (.frameArrival p bytes) s = .next (bytes.foldl (fun s b => s.settled.takeByte p b) s) := rfl

@[simp] theorem exec_lineSilence (p : Port) (s : State) :
    exec (.lineSilence p) s = .next (s.silence p) := rfl

@[simp] theorem exec_receiveBreak (p : Port) (s : State) :
    exec (.receiveBreak p) s = .next (s.lineBreak p) := rfl

@[simp] theorem exec_transmissionStart (p : Port) (s : State) :
    exec (.transmissionStart p) s = .next (s.startTransmission p) := rfl

@[simp] theorem exec_transmissionComplete (p : Port) (s : State) :
    exec (.transmissionComplete p) s = .next (s.completeTransmission p) := rfl

@[simp] theorem exec_transmissionAbandon (p : Port) (s : State) :
    exec (.transmissionAbandon p) s = .next (s.abandonTransmission p) := rfl

@[simp] theorem exec_sendPendingService (g : Gallery) (s : State) :
    exec (.sendPendingService g) s = .next (s.takeService g) := rfl

@[simp] theorem exec_clockAdvance (s : State) :
    exec .clockAdvance s = .next s.oneSecond := rfl

@[simp] theorem exec_checkpointStart (s : State) :
    exec .checkpointStart s = .next (if s.store.write = .none ∧ s.store.saveWaiting = false ∧ s.store.due = true then s.startCheckpoint else s) := rfl

@[simp] theorem exec_checkpointWriteEnd (bad : List (Fin 128)) (s : State) :
    exec (.checkpointWriteEnd bad) s = .next (s.endCheckpoint bad) := rfl

@[simp] theorem exec_saveStart (s : State) :
    exec .saveStart s = .next (if s.store.write = .none ∧ s.store.saveWaiting = true then s.startSave else s) := rfl

@[simp] theorem exec_saveEnd (equal : Bool) (s : State) :
    exec (.saveEnd equal) s = .next (s.endSave equal) := rfl

@[simp] theorem exec_staleTimerExpiry (p : Fin 64) (s : State) :
    exec (.staleTimerExpiry p) s = .next (s.staleExpiry p) := rfl

@[simp] theorem exec_presenceStaleExpiry (p : Fin 64) (s : State) :
    exec (.presenceStaleExpiry p) s = .next (s.presenceStaleExpiry p) := rfl

@[simp] theorem exec_stuckTimerExpiry (p : Fin 64) (s : State) :
    exec (.stuckTimerExpiry p) s = .next (s.stuckExpiry p) := rfl

@[simp] theorem exec_absenceTimerExpiry (z : Fin 16) (s : State) :
    exec (.absenceTimerExpiry z) s = .next (s.absenceExpiry z) := rfl

@[simp] theorem exec_feedbackTimerExpiry (a : Fin 64) (s : State) :
    exec (.feedbackTimerExpiry a) s = .next (s.feedbackExpiry a) := rfl

@[simp] theorem exec_unknownRequest (channel : Byte) (payload : List Byte) (s : State) :
    exec (.unknownRequest channel payload) s = .next (s.respond channel payload) := rfl

@[simp] theorem exec_queryDevice (r : Request) (s : State) :
    exec (.queryDevice r) s = .next (s.onQueryDevice r) := rfl

@[simp] theorem exec_queryPoint (r : Request) (s : State) :
    exec (.queryPoint r) s = .next (s.onQueryPoint r) := rfl

@[simp] theorem exec_queryActuator (r : Request) (s : State) :
    exec (.queryActuator r) s = .next (s.onQueryActuator r) := rfl

@[simp] theorem exec_queryObject (r : Request) (s : State) :
    exec (.queryObject r) s = .next (s.onQueryObject r) := rfl

@[simp] theorem exec_queryZone (r : Request) (s : State) :
    exec (.queryZone r) s = .next (s.onQueryZone r) := rfl

@[simp] theorem exec_setTime (r : Request) (s : State) :
    exec (.setTime r) s = .next (s.onSetTime r) := rfl

@[simp] theorem exec_loadOpen (r : Request) (s : State) :
    exec (.loadOpen r) s = .next (s.onLoadOpen r) := rfl

@[simp] theorem exec_loadEntry (r : Request) (s : State) :
    exec (.loadEntry r) s = .next (s.onLoadEntry r) := rfl

@[simp] theorem exec_loadAbort (r : Request) (s : State) :
    exec (.loadAbort r) s = .next (s.onLoadAbort r) := rfl

@[simp] theorem exec_readEntry (r : Request) (s : State) :
    exec (.readEntry r) s = .next (s.onReadEntry r) := rfl

@[simp] theorem exec_overridePush (r : Request) (s : State) :
    exec (.overridePush r) s = .next (s.onPush r) := rfl

@[simp] theorem exec_overridePop (r : Request) (s : State) :
    exec (.overridePop r) s = .next (s.onPop r) := rfl

@[simp] theorem exec_overrideCancel (r : Request) (s : State) :
    exec (.overrideCancel r) s = .next (s.onCancel r) := rfl

@[simp] theorem exec_overrideClear (r : Request) (s : State) :
    exec (.overrideClear r) s = .next (s.onClear r) := rfl

@[simp] theorem exec_objectPeriodStart (r : Request) (s : State) :
    exec (.objectPeriodStart r) s = .next (s.onPeriodStart r) := rfl

@[simp] theorem exec_doseSet (r : Request) (s : State) :
    exec (.doseSet r) s = .next (s.onDoseSet r) := rfl

@[simp] theorem exec_collectNotices (r : Request) (s : State) :
    exec (.collectNotices r) s = .next (s.onCollect r) := rfl

@[simp] theorem exec_saveConfig (r : Request) (s : State) :
    exec (.saveConfig r) s = .next (s.onSaveConfig r) := rfl

@[simp] theorem exec_resetHard (channel : Byte) (tag : Word) (s : State) :
    exec (.resetHard channel tag) s = .next (s.onReset ⟨channel, tag, [0x02]⟩) := rfl

@[simp] theorem exec_resetSoft (channel : Byte) (tag : Word) (s : State) :
    exec (.resetSoft channel tag) s = .next (s.onReset ⟨channel, tag, [0x01]⟩) := rfl

@[simp] theorem exec_powerOnReset (written torn : List (Fin 128)) (s : State) :
    exec (.powerOnReset written torn) s = .next (s.powerOn written torn) := rfl

@[simp] theorem exec_resetComplete (s : State) :
    exec .resetComplete s = .next s.completeReset := rfl

@[simp] theorem exec_byteReceived (p : Port) (byte : Byte) (s : State) :
    exec (.byteReceived p byte) s = .next (s.takeByte p byte) := rfl

end Sys2Proof.Machine
end

