-- ==== Sys2Proof/Laws/State.lean ====
section
/-! SUPPORT. One lemma per field per named update of the state. -/

namespace Sys2Proof.Machine

/-! ### setPort -/

@[simp] theorem State.setPort_ports (s : State) (p : Port) (x : PortState) : (s.setPort p x).ports = s.ports.set p x := rfl
@[simp] theorem State.setPort_marks (s : State) (p : Port) (x : PortState) : (s.setPort p x).marks = s.marks := rfl
@[simp] theorem State.setPort_tables (s : State) (p : Port) (x : PortState) : (s.setPort p x).tables = s.tables := rfl
@[simp] theorem State.setPort_points (s : State) (p : Port) (x : PortState) : (s.setPort p x).points = s.points := rfl
@[simp] theorem State.setPort_clock (s : State) (p : Port) (x : PortState) : (s.setPort p x).clock = s.clock := rfl
@[simp] theorem State.setPort_phase (s : State) (p : Port) (x : PortState) : (s.setPort p x).phase = s.phase := rfl
@[simp] theorem State.setPort_zones (s : State) (p : Port) (x : PortState) : (s.setPort p x).zones = s.zones := rfl
@[simp] theorem State.setPort_overrides (s : State) (p : Port) (x : PortState) : (s.setPort p x).overrides = s.overrides := rfl
@[simp] theorem State.setPort_heldPhase (s : State) (p : Port) (x : PortState) : (s.setPort p x).heldPhase = s.heldPhase := rfl
@[simp] theorem State.setPort_accounts (s : State) (p : Port) (x : PortState) : (s.setPort p x).accounts = s.accounts := rfl
@[simp] theorem State.setPort_loops (s : State) (p : Port) (x : PortState) : (s.setPort p x).loops = s.loops := rfl
@[simp] theorem State.setPort_blinds (s : State) (p : Port) (x : PortState) : (s.setPort p x).blinds = s.blinds := rfl
@[simp] theorem State.setPort_flags (s : State) (p : Port) (x : PortState) : (s.setPort p x).flags = s.flags := rfl
@[simp] theorem State.setPort_actuators (s : State) (p : Port) (x : PortState) : (s.setPort p x).actuators = s.actuators := rfl
@[simp] theorem State.setPort_load (s : State) (p : Port) (x : PortState) : (s.setPort p x).load = s.load := rfl
@[simp] theorem State.setPort_save (s : State) (p : Port) (x : PortState) : (s.setPort p x).save = s.save := rfl
@[simp] theorem State.setPort_noticed (s : State) (p : Port) (x : PortState) : (s.setPort p x).noticed = s.noticed := rfl
@[simp] theorem State.setPort_store (s : State) (p : Port) (x : PortState) : (s.setPort p x).store = s.store := rfl
@[simp] theorem State.setPort_resetting (s : State) (p : Port) (x : PortState) : (s.setPort p x).resetting = s.resetting := rfl
@[simp] theorem State.setPort_deferred (s : State) (p : Port) (x : PortState) : (s.setPort p x).deferred = s.deferred := rfl
@[simp] theorem State.setPort_held (s : State) (p : Port) (x : PortState) : (s.setPort p x).held = s.held := rfl
@[simp] theorem State.setPort_free (s : State) (p : Port) (x : PortState) : (s.setPort p x).free = s.free := rfl
@[simp] theorem State.setPort_pending (s : State) (p : Port) (x : PortState) : (s.setPort p x).pending = s.pending := rfl
@[simp] theorem State.setPort_owed (s : State) (p : Port) (x : PortState) : (s.setPort p x).owed = s.owed := rfl

/-! ### setMark -/

@[simp] theorem State.setMark_ports (s : State) (a : Fin 64) (b : Bool) : (s.setMark a b).ports = s.ports := rfl
@[simp] theorem State.setMark_marks (s : State) (a : Fin 64) (b : Bool) : (s.setMark a b).marks = s.marks.set a b := rfl
@[simp] theorem State.setMark_tables (s : State) (a : Fin 64) (b : Bool) : (s.setMark a b).tables = s.tables := rfl
@[simp] theorem State.setMark_points (s : State) (a : Fin 64) (b : Bool) : (s.setMark a b).points = s.points := rfl
@[simp] theorem State.setMark_clock (s : State) (a : Fin 64) (b : Bool) : (s.setMark a b).clock = s.clock := rfl
@[simp] theorem State.setMark_phase (s : State) (a : Fin 64) (b : Bool) : (s.setMark a b).phase = s.phase := rfl
@[simp] theorem State.setMark_zones (s : State) (a : Fin 64) (b : Bool) : (s.setMark a b).zones = s.zones := rfl
@[simp] theorem State.setMark_overrides (s : State) (a : Fin 64) (b : Bool) : (s.setMark a b).overrides = s.overrides := rfl
@[simp] theorem State.setMark_heldPhase (s : State) (a : Fin 64) (b : Bool) : (s.setMark a b).heldPhase = s.heldPhase := rfl
@[simp] theorem State.setMark_accounts (s : State) (a : Fin 64) (b : Bool) : (s.setMark a b).accounts = s.accounts := rfl
@[simp] theorem State.setMark_loops (s : State) (a : Fin 64) (b : Bool) : (s.setMark a b).loops = s.loops := rfl
@[simp] theorem State.setMark_blinds (s : State) (a : Fin 64) (b : Bool) : (s.setMark a b).blinds = s.blinds := rfl
@[simp] theorem State.setMark_flags (s : State) (a : Fin 64) (b : Bool) : (s.setMark a b).flags = s.flags := rfl
@[simp] theorem State.setMark_actuators (s : State) (a : Fin 64) (b : Bool) : (s.setMark a b).actuators = s.actuators := rfl
@[simp] theorem State.setMark_load (s : State) (a : Fin 64) (b : Bool) : (s.setMark a b).load = s.load := rfl
@[simp] theorem State.setMark_save (s : State) (a : Fin 64) (b : Bool) : (s.setMark a b).save = s.save := rfl
@[simp] theorem State.setMark_noticed (s : State) (a : Fin 64) (b : Bool) : (s.setMark a b).noticed = s.noticed := rfl
@[simp] theorem State.setMark_store (s : State) (a : Fin 64) (b : Bool) : (s.setMark a b).store = s.store := rfl
@[simp] theorem State.setMark_resetting (s : State) (a : Fin 64) (b : Bool) : (s.setMark a b).resetting = s.resetting := rfl
@[simp] theorem State.setMark_deferred (s : State) (a : Fin 64) (b : Bool) : (s.setMark a b).deferred = s.deferred := rfl
@[simp] theorem State.setMark_held (s : State) (a : Fin 64) (b : Bool) : (s.setMark a b).held = s.held := rfl
@[simp] theorem State.setMark_free (s : State) (a : Fin 64) (b : Bool) : (s.setMark a b).free = s.free := rfl
@[simp] theorem State.setMark_pending (s : State) (a : Fin 64) (b : Bool) : (s.setMark a b).pending = s.pending := rfl
@[simp] theorem State.setMark_owed (s : State) (a : Fin 64) (b : Bool) : (s.setMark a b).owed = s.owed := rfl

/-! ### setPoint -/

@[simp] theorem State.setPoint_ports (s : State) (p : Fin 64) (d : PointDyn) : (s.setPoint p d).ports = s.ports := rfl
@[simp] theorem State.setPoint_marks (s : State) (p : Fin 64) (d : PointDyn) : (s.setPoint p d).marks = s.marks := rfl
@[simp] theorem State.setPoint_tables (s : State) (p : Fin 64) (d : PointDyn) : (s.setPoint p d).tables = s.tables := rfl
@[simp] theorem State.setPoint_points (s : State) (p : Fin 64) (d : PointDyn) : (s.setPoint p d).points = s.points.set p d := rfl
@[simp] theorem State.setPoint_clock (s : State) (p : Fin 64) (d : PointDyn) : (s.setPoint p d).clock = s.clock := rfl
@[simp] theorem State.setPoint_phase (s : State) (p : Fin 64) (d : PointDyn) : (s.setPoint p d).phase = s.phase := rfl
@[simp] theorem State.setPoint_zones (s : State) (p : Fin 64) (d : PointDyn) : (s.setPoint p d).zones = s.zones := rfl
@[simp] theorem State.setPoint_overrides (s : State) (p : Fin 64) (d : PointDyn) : (s.setPoint p d).overrides = s.overrides := rfl
@[simp] theorem State.setPoint_heldPhase (s : State) (p : Fin 64) (d : PointDyn) : (s.setPoint p d).heldPhase = s.heldPhase := rfl
@[simp] theorem State.setPoint_accounts (s : State) (p : Fin 64) (d : PointDyn) : (s.setPoint p d).accounts = s.accounts := rfl
@[simp] theorem State.setPoint_loops (s : State) (p : Fin 64) (d : PointDyn) : (s.setPoint p d).loops = s.loops := rfl
@[simp] theorem State.setPoint_blinds (s : State) (p : Fin 64) (d : PointDyn) : (s.setPoint p d).blinds = s.blinds := rfl
@[simp] theorem State.setPoint_flags (s : State) (p : Fin 64) (d : PointDyn) : (s.setPoint p d).flags = s.flags := rfl
@[simp] theorem State.setPoint_actuators (s : State) (p : Fin 64) (d : PointDyn) : (s.setPoint p d).actuators = s.actuators := rfl
@[simp] theorem State.setPoint_load (s : State) (p : Fin 64) (d : PointDyn) : (s.setPoint p d).load = s.load := rfl
@[simp] theorem State.setPoint_save (s : State) (p : Fin 64) (d : PointDyn) : (s.setPoint p d).save = s.save := rfl
@[simp] theorem State.setPoint_noticed (s : State) (p : Fin 64) (d : PointDyn) : (s.setPoint p d).noticed = s.noticed := rfl
@[simp] theorem State.setPoint_store (s : State) (p : Fin 64) (d : PointDyn) : (s.setPoint p d).store = s.store := rfl
@[simp] theorem State.setPoint_resetting (s : State) (p : Fin 64) (d : PointDyn) : (s.setPoint p d).resetting = s.resetting := rfl
@[simp] theorem State.setPoint_deferred (s : State) (p : Fin 64) (d : PointDyn) : (s.setPoint p d).deferred = s.deferred := rfl
@[simp] theorem State.setPoint_held (s : State) (p : Fin 64) (d : PointDyn) : (s.setPoint p d).held = s.held := rfl
@[simp] theorem State.setPoint_free (s : State) (p : Fin 64) (d : PointDyn) : (s.setPoint p d).free = s.free := rfl
@[simp] theorem State.setPoint_pending (s : State) (p : Fin 64) (d : PointDyn) : (s.setPoint p d).pending = s.pending := rfl
@[simp] theorem State.setPoint_owed (s : State) (p : Fin 64) (d : PointDyn) : (s.setPoint p d).owed = s.owed := rfl

/-! ### setZone -/

@[simp] theorem State.setZone_ports (s : State) (z : Fin 16) (d : ZoneDyn) : (s.setZone z d).ports = s.ports := rfl
@[simp] theorem State.setZone_marks (s : State) (z : Fin 16) (d : ZoneDyn) : (s.setZone z d).marks = s.marks := rfl
@[simp] theorem State.setZone_tables (s : State) (z : Fin 16) (d : ZoneDyn) : (s.setZone z d).tables = s.tables := rfl
@[simp] theorem State.setZone_points (s : State) (z : Fin 16) (d : ZoneDyn) : (s.setZone z d).points = s.points := rfl
@[simp] theorem State.setZone_clock (s : State) (z : Fin 16) (d : ZoneDyn) : (s.setZone z d).clock = s.clock := rfl
@[simp] theorem State.setZone_phase (s : State) (z : Fin 16) (d : ZoneDyn) : (s.setZone z d).phase = s.phase := rfl
@[simp] theorem State.setZone_zones (s : State) (z : Fin 16) (d : ZoneDyn) : (s.setZone z d).zones = s.zones.set z d := rfl
@[simp] theorem State.setZone_overrides (s : State) (z : Fin 16) (d : ZoneDyn) : (s.setZone z d).overrides = s.overrides := rfl
@[simp] theorem State.setZone_heldPhase (s : State) (z : Fin 16) (d : ZoneDyn) : (s.setZone z d).heldPhase = s.heldPhase := rfl
@[simp] theorem State.setZone_accounts (s : State) (z : Fin 16) (d : ZoneDyn) : (s.setZone z d).accounts = s.accounts := rfl
@[simp] theorem State.setZone_loops (s : State) (z : Fin 16) (d : ZoneDyn) : (s.setZone z d).loops = s.loops := rfl
@[simp] theorem State.setZone_blinds (s : State) (z : Fin 16) (d : ZoneDyn) : (s.setZone z d).blinds = s.blinds := rfl
@[simp] theorem State.setZone_flags (s : State) (z : Fin 16) (d : ZoneDyn) : (s.setZone z d).flags = s.flags := rfl
@[simp] theorem State.setZone_actuators (s : State) (z : Fin 16) (d : ZoneDyn) : (s.setZone z d).actuators = s.actuators := rfl
@[simp] theorem State.setZone_load (s : State) (z : Fin 16) (d : ZoneDyn) : (s.setZone z d).load = s.load := rfl
@[simp] theorem State.setZone_save (s : State) (z : Fin 16) (d : ZoneDyn) : (s.setZone z d).save = s.save := rfl
@[simp] theorem State.setZone_noticed (s : State) (z : Fin 16) (d : ZoneDyn) : (s.setZone z d).noticed = s.noticed := rfl
@[simp] theorem State.setZone_store (s : State) (z : Fin 16) (d : ZoneDyn) : (s.setZone z d).store = s.store := rfl
@[simp] theorem State.setZone_resetting (s : State) (z : Fin 16) (d : ZoneDyn) : (s.setZone z d).resetting = s.resetting := rfl
@[simp] theorem State.setZone_deferred (s : State) (z : Fin 16) (d : ZoneDyn) : (s.setZone z d).deferred = s.deferred := rfl
@[simp] theorem State.setZone_held (s : State) (z : Fin 16) (d : ZoneDyn) : (s.setZone z d).held = s.held := rfl
@[simp] theorem State.setZone_free (s : State) (z : Fin 16) (d : ZoneDyn) : (s.setZone z d).free = s.free := rfl
@[simp] theorem State.setZone_pending (s : State) (z : Fin 16) (d : ZoneDyn) : (s.setZone z d).pending = s.pending := rfl
@[simp] theorem State.setZone_owed (s : State) (z : Fin 16) (d : ZoneDyn) : (s.setZone z d).owed = s.owed := rfl

/-! ### setStack -/

@[simp] theorem State.setStack_ports (s : State) (z : Fin 16) (l : List Override) : (s.setStack z l).ports = s.ports := rfl
@[simp] theorem State.setStack_marks (s : State) (z : Fin 16) (l : List Override) : (s.setStack z l).marks = s.marks := rfl
@[simp] theorem State.setStack_tables (s : State) (z : Fin 16) (l : List Override) : (s.setStack z l).tables = s.tables := rfl
@[simp] theorem State.setStack_points (s : State) (z : Fin 16) (l : List Override) : (s.setStack z l).points = s.points := rfl
@[simp] theorem State.setStack_clock (s : State) (z : Fin 16) (l : List Override) : (s.setStack z l).clock = s.clock := rfl
@[simp] theorem State.setStack_phase (s : State) (z : Fin 16) (l : List Override) : (s.setStack z l).phase = s.phase := rfl
@[simp] theorem State.setStack_zones (s : State) (z : Fin 16) (l : List Override) : (s.setStack z l).zones = s.zones := rfl
@[simp] theorem State.setStack_overrides (s : State) (z : Fin 16) (l : List Override) : (s.setStack z l).overrides = s.overrides.set z l := rfl
@[simp] theorem State.setStack_heldPhase (s : State) (z : Fin 16) (l : List Override) : (s.setStack z l).heldPhase = s.heldPhase := rfl
@[simp] theorem State.setStack_accounts (s : State) (z : Fin 16) (l : List Override) : (s.setStack z l).accounts = s.accounts := rfl
@[simp] theorem State.setStack_loops (s : State) (z : Fin 16) (l : List Override) : (s.setStack z l).loops = s.loops := rfl
@[simp] theorem State.setStack_blinds (s : State) (z : Fin 16) (l : List Override) : (s.setStack z l).blinds = s.blinds := rfl
@[simp] theorem State.setStack_flags (s : State) (z : Fin 16) (l : List Override) : (s.setStack z l).flags = s.flags := rfl
@[simp] theorem State.setStack_actuators (s : State) (z : Fin 16) (l : List Override) : (s.setStack z l).actuators = s.actuators := rfl
@[simp] theorem State.setStack_load (s : State) (z : Fin 16) (l : List Override) : (s.setStack z l).load = s.load := rfl
@[simp] theorem State.setStack_save (s : State) (z : Fin 16) (l : List Override) : (s.setStack z l).save = s.save := rfl
@[simp] theorem State.setStack_noticed (s : State) (z : Fin 16) (l : List Override) : (s.setStack z l).noticed = s.noticed := rfl
@[simp] theorem State.setStack_store (s : State) (z : Fin 16) (l : List Override) : (s.setStack z l).store = s.store := rfl
@[simp] theorem State.setStack_resetting (s : State) (z : Fin 16) (l : List Override) : (s.setStack z l).resetting = s.resetting := rfl
@[simp] theorem State.setStack_deferred (s : State) (z : Fin 16) (l : List Override) : (s.setStack z l).deferred = s.deferred := rfl
@[simp] theorem State.setStack_held (s : State) (z : Fin 16) (l : List Override) : (s.setStack z l).held = s.held := rfl
@[simp] theorem State.setStack_free (s : State) (z : Fin 16) (l : List Override) : (s.setStack z l).free = s.free := rfl
@[simp] theorem State.setStack_pending (s : State) (z : Fin 16) (l : List Override) : (s.setStack z l).pending = s.pending := rfl
@[simp] theorem State.setStack_owed (s : State) (z : Fin 16) (l : List Override) : (s.setStack z l).owed = s.owed := rfl

/-! ### setLoop -/

@[simp] theorem State.setLoop_ports (s : State) (a : Fin 64) (c : LoopCtx) : (s.setLoop a c).ports = s.ports := rfl
@[simp] theorem State.setLoop_marks (s : State) (a : Fin 64) (c : LoopCtx) : (s.setLoop a c).marks = s.marks := rfl
@[simp] theorem State.setLoop_tables (s : State) (a : Fin 64) (c : LoopCtx) : (s.setLoop a c).tables = s.tables := rfl
@[simp] theorem State.setLoop_points (s : State) (a : Fin 64) (c : LoopCtx) : (s.setLoop a c).points = s.points := rfl
@[simp] theorem State.setLoop_clock (s : State) (a : Fin 64) (c : LoopCtx) : (s.setLoop a c).clock = s.clock := rfl
@[simp] theorem State.setLoop_phase (s : State) (a : Fin 64) (c : LoopCtx) : (s.setLoop a c).phase = s.phase := rfl
@[simp] theorem State.setLoop_zones (s : State) (a : Fin 64) (c : LoopCtx) : (s.setLoop a c).zones = s.zones := rfl
@[simp] theorem State.setLoop_overrides (s : State) (a : Fin 64) (c : LoopCtx) : (s.setLoop a c).overrides = s.overrides := rfl
@[simp] theorem State.setLoop_heldPhase (s : State) (a : Fin 64) (c : LoopCtx) : (s.setLoop a c).heldPhase = s.heldPhase := rfl
@[simp] theorem State.setLoop_accounts (s : State) (a : Fin 64) (c : LoopCtx) : (s.setLoop a c).accounts = s.accounts := rfl
@[simp] theorem State.setLoop_loops (s : State) (a : Fin 64) (c : LoopCtx) : (s.setLoop a c).loops = s.loops.set a c := rfl
@[simp] theorem State.setLoop_blinds (s : State) (a : Fin 64) (c : LoopCtx) : (s.setLoop a c).blinds = s.blinds := rfl
@[simp] theorem State.setLoop_flags (s : State) (a : Fin 64) (c : LoopCtx) : (s.setLoop a c).flags = s.flags := rfl
@[simp] theorem State.setLoop_actuators (s : State) (a : Fin 64) (c : LoopCtx) : (s.setLoop a c).actuators = s.actuators := rfl
@[simp] theorem State.setLoop_load (s : State) (a : Fin 64) (c : LoopCtx) : (s.setLoop a c).load = s.load := rfl
@[simp] theorem State.setLoop_save (s : State) (a : Fin 64) (c : LoopCtx) : (s.setLoop a c).save = s.save := rfl
@[simp] theorem State.setLoop_noticed (s : State) (a : Fin 64) (c : LoopCtx) : (s.setLoop a c).noticed = s.noticed := rfl
@[simp] theorem State.setLoop_store (s : State) (a : Fin 64) (c : LoopCtx) : (s.setLoop a c).store = s.store := rfl
@[simp] theorem State.setLoop_resetting (s : State) (a : Fin 64) (c : LoopCtx) : (s.setLoop a c).resetting = s.resetting := rfl
@[simp] theorem State.setLoop_deferred (s : State) (a : Fin 64) (c : LoopCtx) : (s.setLoop a c).deferred = s.deferred := rfl
@[simp] theorem State.setLoop_held (s : State) (a : Fin 64) (c : LoopCtx) : (s.setLoop a c).held = s.held := rfl
@[simp] theorem State.setLoop_free (s : State) (a : Fin 64) (c : LoopCtx) : (s.setLoop a c).free = s.free := rfl
@[simp] theorem State.setLoop_pending (s : State) (a : Fin 64) (c : LoopCtx) : (s.setLoop a c).pending = s.pending := rfl
@[simp] theorem State.setLoop_owed (s : State) (a : Fin 64) (c : LoopCtx) : (s.setLoop a c).owed = s.owed := rfl

/-! ### setBlind -/

@[simp] theorem State.setBlind_ports (s : State) (z : Fin 16) (b : BlindState) : (s.setBlind z b).ports = s.ports := rfl
@[simp] theorem State.setBlind_marks (s : State) (z : Fin 16) (b : BlindState) : (s.setBlind z b).marks = s.marks := rfl
@[simp] theorem State.setBlind_tables (s : State) (z : Fin 16) (b : BlindState) : (s.setBlind z b).tables = s.tables := rfl
@[simp] theorem State.setBlind_points (s : State) (z : Fin 16) (b : BlindState) : (s.setBlind z b).points = s.points := rfl
@[simp] theorem State.setBlind_clock (s : State) (z : Fin 16) (b : BlindState) : (s.setBlind z b).clock = s.clock := rfl
@[simp] theorem State.setBlind_phase (s : State) (z : Fin 16) (b : BlindState) : (s.setBlind z b).phase = s.phase := rfl
@[simp] theorem State.setBlind_zones (s : State) (z : Fin 16) (b : BlindState) : (s.setBlind z b).zones = s.zones := rfl
@[simp] theorem State.setBlind_overrides (s : State) (z : Fin 16) (b : BlindState) : (s.setBlind z b).overrides = s.overrides := rfl
@[simp] theorem State.setBlind_heldPhase (s : State) (z : Fin 16) (b : BlindState) : (s.setBlind z b).heldPhase = s.heldPhase := rfl
@[simp] theorem State.setBlind_accounts (s : State) (z : Fin 16) (b : BlindState) : (s.setBlind z b).accounts = s.accounts := rfl
@[simp] theorem State.setBlind_loops (s : State) (z : Fin 16) (b : BlindState) : (s.setBlind z b).loops = s.loops := rfl
@[simp] theorem State.setBlind_blinds (s : State) (z : Fin 16) (b : BlindState) : (s.setBlind z b).blinds = s.blinds.set z b := rfl
@[simp] theorem State.setBlind_flags (s : State) (z : Fin 16) (b : BlindState) : (s.setBlind z b).flags = s.flags := rfl
@[simp] theorem State.setBlind_actuators (s : State) (z : Fin 16) (b : BlindState) : (s.setBlind z b).actuators = s.actuators := rfl
@[simp] theorem State.setBlind_load (s : State) (z : Fin 16) (b : BlindState) : (s.setBlind z b).load = s.load := rfl
@[simp] theorem State.setBlind_save (s : State) (z : Fin 16) (b : BlindState) : (s.setBlind z b).save = s.save := rfl
@[simp] theorem State.setBlind_noticed (s : State) (z : Fin 16) (b : BlindState) : (s.setBlind z b).noticed = s.noticed := rfl
@[simp] theorem State.setBlind_store (s : State) (z : Fin 16) (b : BlindState) : (s.setBlind z b).store = s.store := rfl
@[simp] theorem State.setBlind_resetting (s : State) (z : Fin 16) (b : BlindState) : (s.setBlind z b).resetting = s.resetting := rfl
@[simp] theorem State.setBlind_deferred (s : State) (z : Fin 16) (b : BlindState) : (s.setBlind z b).deferred = s.deferred := rfl
@[simp] theorem State.setBlind_held (s : State) (z : Fin 16) (b : BlindState) : (s.setBlind z b).held = s.held := rfl
@[simp] theorem State.setBlind_free (s : State) (z : Fin 16) (b : BlindState) : (s.setBlind z b).free = s.free := rfl
@[simp] theorem State.setBlind_pending (s : State) (z : Fin 16) (b : BlindState) : (s.setBlind z b).pending = s.pending := rfl
@[simp] theorem State.setBlind_owed (s : State) (z : Fin 16) (b : BlindState) : (s.setBlind z b).owed = s.owed := rfl

/-! ### setFlag -/

@[simp] theorem State.setFlag_ports (s : State) (a : Fin 64) (b : Bool) : (s.setFlag a b).ports = s.ports := rfl
@[simp] theorem State.setFlag_marks (s : State) (a : Fin 64) (b : Bool) : (s.setFlag a b).marks = s.marks := rfl
@[simp] theorem State.setFlag_tables (s : State) (a : Fin 64) (b : Bool) : (s.setFlag a b).tables = s.tables := rfl
@[simp] theorem State.setFlag_points (s : State) (a : Fin 64) (b : Bool) : (s.setFlag a b).points = s.points := rfl
@[simp] theorem State.setFlag_clock (s : State) (a : Fin 64) (b : Bool) : (s.setFlag a b).clock = s.clock := rfl
@[simp] theorem State.setFlag_phase (s : State) (a : Fin 64) (b : Bool) : (s.setFlag a b).phase = s.phase := rfl
@[simp] theorem State.setFlag_zones (s : State) (a : Fin 64) (b : Bool) : (s.setFlag a b).zones = s.zones := rfl
@[simp] theorem State.setFlag_overrides (s : State) (a : Fin 64) (b : Bool) : (s.setFlag a b).overrides = s.overrides := rfl
@[simp] theorem State.setFlag_heldPhase (s : State) (a : Fin 64) (b : Bool) : (s.setFlag a b).heldPhase = s.heldPhase := rfl
@[simp] theorem State.setFlag_accounts (s : State) (a : Fin 64) (b : Bool) : (s.setFlag a b).accounts = s.accounts := rfl
@[simp] theorem State.setFlag_loops (s : State) (a : Fin 64) (b : Bool) : (s.setFlag a b).loops = s.loops := rfl
@[simp] theorem State.setFlag_blinds (s : State) (a : Fin 64) (b : Bool) : (s.setFlag a b).blinds = s.blinds := rfl
@[simp] theorem State.setFlag_flags (s : State) (a : Fin 64) (b : Bool) : (s.setFlag a b).flags = s.flags.set a b := rfl
@[simp] theorem State.setFlag_actuators (s : State) (a : Fin 64) (b : Bool) : (s.setFlag a b).actuators = s.actuators := rfl
@[simp] theorem State.setFlag_load (s : State) (a : Fin 64) (b : Bool) : (s.setFlag a b).load = s.load := rfl
@[simp] theorem State.setFlag_save (s : State) (a : Fin 64) (b : Bool) : (s.setFlag a b).save = s.save := rfl
@[simp] theorem State.setFlag_noticed (s : State) (a : Fin 64) (b : Bool) : (s.setFlag a b).noticed = s.noticed := rfl
@[simp] theorem State.setFlag_store (s : State) (a : Fin 64) (b : Bool) : (s.setFlag a b).store = s.store := rfl
@[simp] theorem State.setFlag_resetting (s : State) (a : Fin 64) (b : Bool) : (s.setFlag a b).resetting = s.resetting := rfl
@[simp] theorem State.setFlag_deferred (s : State) (a : Fin 64) (b : Bool) : (s.setFlag a b).deferred = s.deferred := rfl
@[simp] theorem State.setFlag_held (s : State) (a : Fin 64) (b : Bool) : (s.setFlag a b).held = s.held := rfl
@[simp] theorem State.setFlag_free (s : State) (a : Fin 64) (b : Bool) : (s.setFlag a b).free = s.free := rfl
@[simp] theorem State.setFlag_pending (s : State) (a : Fin 64) (b : Bool) : (s.setFlag a b).pending = s.pending := rfl
@[simp] theorem State.setFlag_owed (s : State) (a : Fin 64) (b : Bool) : (s.setFlag a b).owed = s.owed := rfl

/-! ### setActuator -/

@[simp] theorem State.setActuator_ports (s : State) (a : Fin 64) (d : ActDyn) : (s.setActuator a d).ports = s.ports := rfl
@[simp] theorem State.setActuator_marks (s : State) (a : Fin 64) (d : ActDyn) : (s.setActuator a d).marks = s.marks := rfl
@[simp] theorem State.setActuator_tables (s : State) (a : Fin 64) (d : ActDyn) : (s.setActuator a d).tables = s.tables := rfl
@[simp] theorem State.setActuator_points (s : State) (a : Fin 64) (d : ActDyn) : (s.setActuator a d).points = s.points := rfl
@[simp] theorem State.setActuator_clock (s : State) (a : Fin 64) (d : ActDyn) : (s.setActuator a d).clock = s.clock := rfl
@[simp] theorem State.setActuator_phase (s : State) (a : Fin 64) (d : ActDyn) : (s.setActuator a d).phase = s.phase := rfl
@[simp] theorem State.setActuator_zones (s : State) (a : Fin 64) (d : ActDyn) : (s.setActuator a d).zones = s.zones := rfl
@[simp] theorem State.setActuator_overrides (s : State) (a : Fin 64) (d : ActDyn) : (s.setActuator a d).overrides = s.overrides := rfl
@[simp] theorem State.setActuator_heldPhase (s : State) (a : Fin 64) (d : ActDyn) : (s.setActuator a d).heldPhase = s.heldPhase := rfl
@[simp] theorem State.setActuator_accounts (s : State) (a : Fin 64) (d : ActDyn) : (s.setActuator a d).accounts = s.accounts := rfl
@[simp] theorem State.setActuator_loops (s : State) (a : Fin 64) (d : ActDyn) : (s.setActuator a d).loops = s.loops := rfl
@[simp] theorem State.setActuator_blinds (s : State) (a : Fin 64) (d : ActDyn) : (s.setActuator a d).blinds = s.blinds := rfl
@[simp] theorem State.setActuator_flags (s : State) (a : Fin 64) (d : ActDyn) : (s.setActuator a d).flags = s.flags := rfl
@[simp] theorem State.setActuator_actuators (s : State) (a : Fin 64) (d : ActDyn) : (s.setActuator a d).actuators = s.actuators.set a d := rfl
@[simp] theorem State.setActuator_load (s : State) (a : Fin 64) (d : ActDyn) : (s.setActuator a d).load = s.load := rfl
@[simp] theorem State.setActuator_save (s : State) (a : Fin 64) (d : ActDyn) : (s.setActuator a d).save = s.save := rfl
@[simp] theorem State.setActuator_noticed (s : State) (a : Fin 64) (d : ActDyn) : (s.setActuator a d).noticed = s.noticed := rfl
@[simp] theorem State.setActuator_store (s : State) (a : Fin 64) (d : ActDyn) : (s.setActuator a d).store = s.store := rfl
@[simp] theorem State.setActuator_resetting (s : State) (a : Fin 64) (d : ActDyn) : (s.setActuator a d).resetting = s.resetting := rfl
@[simp] theorem State.setActuator_deferred (s : State) (a : Fin 64) (d : ActDyn) : (s.setActuator a d).deferred = s.deferred := rfl
@[simp] theorem State.setActuator_held (s : State) (a : Fin 64) (d : ActDyn) : (s.setActuator a d).held = s.held := rfl
@[simp] theorem State.setActuator_free (s : State) (a : Fin 64) (d : ActDyn) : (s.setActuator a d).free = s.free := rfl
@[simp] theorem State.setActuator_pending (s : State) (a : Fin 64) (d : ActDyn) : (s.setActuator a d).pending = s.pending := rfl
@[simp] theorem State.setActuator_owed (s : State) (a : Fin 64) (d : ActDyn) : (s.setActuator a d).owed = s.owed := rfl

/-! ### setAccounts -/

@[simp] theorem State.setAccounts_ports (s : State) (v : Vector Account 128) : (s.setAccounts v).ports = s.ports := rfl
@[simp] theorem State.setAccounts_marks (s : State) (v : Vector Account 128) : (s.setAccounts v).marks = s.marks := rfl
@[simp] theorem State.setAccounts_tables (s : State) (v : Vector Account 128) : (s.setAccounts v).tables = s.tables := rfl
@[simp] theorem State.setAccounts_points (s : State) (v : Vector Account 128) : (s.setAccounts v).points = s.points := rfl
@[simp] theorem State.setAccounts_clock (s : State) (v : Vector Account 128) : (s.setAccounts v).clock = s.clock := rfl
@[simp] theorem State.setAccounts_phase (s : State) (v : Vector Account 128) : (s.setAccounts v).phase = s.phase := rfl
@[simp] theorem State.setAccounts_zones (s : State) (v : Vector Account 128) : (s.setAccounts v).zones = s.zones := rfl
@[simp] theorem State.setAccounts_overrides (s : State) (v : Vector Account 128) : (s.setAccounts v).overrides = s.overrides := rfl
@[simp] theorem State.setAccounts_heldPhase (s : State) (v : Vector Account 128) : (s.setAccounts v).heldPhase = s.heldPhase := rfl
@[simp] theorem State.setAccounts_accounts (s : State) (v : Vector Account 128) : (s.setAccounts v).accounts = v := rfl
@[simp] theorem State.setAccounts_loops (s : State) (v : Vector Account 128) : (s.setAccounts v).loops = s.loops := rfl
@[simp] theorem State.setAccounts_blinds (s : State) (v : Vector Account 128) : (s.setAccounts v).blinds = s.blinds := rfl
@[simp] theorem State.setAccounts_flags (s : State) (v : Vector Account 128) : (s.setAccounts v).flags = s.flags := rfl
@[simp] theorem State.setAccounts_actuators (s : State) (v : Vector Account 128) : (s.setAccounts v).actuators = s.actuators := rfl
@[simp] theorem State.setAccounts_load (s : State) (v : Vector Account 128) : (s.setAccounts v).load = s.load := rfl
@[simp] theorem State.setAccounts_save (s : State) (v : Vector Account 128) : (s.setAccounts v).save = s.save := rfl
@[simp] theorem State.setAccounts_noticed (s : State) (v : Vector Account 128) : (s.setAccounts v).noticed = s.noticed := rfl
@[simp] theorem State.setAccounts_store (s : State) (v : Vector Account 128) : (s.setAccounts v).store = s.store := rfl
@[simp] theorem State.setAccounts_resetting (s : State) (v : Vector Account 128) : (s.setAccounts v).resetting = s.resetting := rfl
@[simp] theorem State.setAccounts_deferred (s : State) (v : Vector Account 128) : (s.setAccounts v).deferred = s.deferred := rfl
@[simp] theorem State.setAccounts_held (s : State) (v : Vector Account 128) : (s.setAccounts v).held = s.held := rfl
@[simp] theorem State.setAccounts_free (s : State) (v : Vector Account 128) : (s.setAccounts v).free = s.free := rfl
@[simp] theorem State.setAccounts_pending (s : State) (v : Vector Account 128) : (s.setAccounts v).pending = s.pending := rfl
@[simp] theorem State.setAccounts_owed (s : State) (v : Vector Account 128) : (s.setAccounts v).owed = s.owed := rfl

/-! ### setStore -/

@[simp] theorem State.setStore_ports (s : State) (x : Store) : (s.setStore x).ports = s.ports := rfl
@[simp] theorem State.setStore_marks (s : State) (x : Store) : (s.setStore x).marks = s.marks := rfl
@[simp] theorem State.setStore_tables (s : State) (x : Store) : (s.setStore x).tables = s.tables := rfl
@[simp] theorem State.setStore_points (s : State) (x : Store) : (s.setStore x).points = s.points := rfl
@[simp] theorem State.setStore_clock (s : State) (x : Store) : (s.setStore x).clock = s.clock := rfl
@[simp] theorem State.setStore_phase (s : State) (x : Store) : (s.setStore x).phase = s.phase := rfl
@[simp] theorem State.setStore_zones (s : State) (x : Store) : (s.setStore x).zones = s.zones := rfl
@[simp] theorem State.setStore_overrides (s : State) (x : Store) : (s.setStore x).overrides = s.overrides := rfl
@[simp] theorem State.setStore_heldPhase (s : State) (x : Store) : (s.setStore x).heldPhase = s.heldPhase := rfl
@[simp] theorem State.setStore_accounts (s : State) (x : Store) : (s.setStore x).accounts = s.accounts := rfl
@[simp] theorem State.setStore_loops (s : State) (x : Store) : (s.setStore x).loops = s.loops := rfl
@[simp] theorem State.setStore_blinds (s : State) (x : Store) : (s.setStore x).blinds = s.blinds := rfl
@[simp] theorem State.setStore_flags (s : State) (x : Store) : (s.setStore x).flags = s.flags := rfl
@[simp] theorem State.setStore_actuators (s : State) (x : Store) : (s.setStore x).actuators = s.actuators := rfl
@[simp] theorem State.setStore_load (s : State) (x : Store) : (s.setStore x).load = s.load := rfl
@[simp] theorem State.setStore_save (s : State) (x : Store) : (s.setStore x).save = s.save := rfl
@[simp] theorem State.setStore_noticed (s : State) (x : Store) : (s.setStore x).noticed = s.noticed := rfl
@[simp] theorem State.setStore_store (s : State) (x : Store) : (s.setStore x).store = x := rfl
@[simp] theorem State.setStore_resetting (s : State) (x : Store) : (s.setStore x).resetting = s.resetting := rfl
@[simp] theorem State.setStore_deferred (s : State) (x : Store) : (s.setStore x).deferred = s.deferred := rfl
@[simp] theorem State.setStore_held (s : State) (x : Store) : (s.setStore x).held = s.held := rfl
@[simp] theorem State.setStore_free (s : State) (x : Store) : (s.setStore x).free = s.free := rfl
@[simp] theorem State.setStore_pending (s : State) (x : Store) : (s.setStore x).pending = s.pending := rfl
@[simp] theorem State.setStore_owed (s : State) (x : Store) : (s.setStore x).owed = s.owed := rfl

/-! ### setTables -/

@[simp] theorem State.setTables_ports (s : State) (t : Tables) : (s.setTables t).ports = s.ports := rfl
@[simp] theorem State.setTables_marks (s : State) (t : Tables) : (s.setTables t).marks = s.marks := rfl
@[simp] theorem State.setTables_tables (s : State) (t : Tables) : (s.setTables t).tables = t := rfl
@[simp] theorem State.setTables_points (s : State) (t : Tables) : (s.setTables t).points = s.points := rfl
@[simp] theorem State.setTables_clock (s : State) (t : Tables) : (s.setTables t).clock = s.clock := rfl
@[simp] theorem State.setTables_phase (s : State) (t : Tables) : (s.setTables t).phase = s.phase := rfl
@[simp] theorem State.setTables_zones (s : State) (t : Tables) : (s.setTables t).zones = s.zones := rfl
@[simp] theorem State.setTables_overrides (s : State) (t : Tables) : (s.setTables t).overrides = s.overrides := rfl
@[simp] theorem State.setTables_heldPhase (s : State) (t : Tables) : (s.setTables t).heldPhase = s.heldPhase := rfl
@[simp] theorem State.setTables_accounts (s : State) (t : Tables) : (s.setTables t).accounts = s.accounts := rfl
@[simp] theorem State.setTables_loops (s : State) (t : Tables) : (s.setTables t).loops = s.loops := rfl
@[simp] theorem State.setTables_blinds (s : State) (t : Tables) : (s.setTables t).blinds = s.blinds := rfl
@[simp] theorem State.setTables_flags (s : State) (t : Tables) : (s.setTables t).flags = s.flags := rfl
@[simp] theorem State.setTables_actuators (s : State) (t : Tables) : (s.setTables t).actuators = s.actuators := rfl
@[simp] theorem State.setTables_load (s : State) (t : Tables) : (s.setTables t).load = s.load := rfl
@[simp] theorem State.setTables_save (s : State) (t : Tables) : (s.setTables t).save = s.save := rfl
@[simp] theorem State.setTables_noticed (s : State) (t : Tables) : (s.setTables t).noticed = s.noticed := rfl
@[simp] theorem State.setTables_store (s : State) (t : Tables) : (s.setTables t).store = s.store := rfl
@[simp] theorem State.setTables_resetting (s : State) (t : Tables) : (s.setTables t).resetting = s.resetting := rfl
@[simp] theorem State.setTables_deferred (s : State) (t : Tables) : (s.setTables t).deferred = s.deferred := rfl
@[simp] theorem State.setTables_held (s : State) (t : Tables) : (s.setTables t).held = s.held := rfl
@[simp] theorem State.setTables_free (s : State) (t : Tables) : (s.setTables t).free = s.free := rfl
@[simp] theorem State.setTables_pending (s : State) (t : Tables) : (s.setTables t).pending = s.pending := rfl
@[simp] theorem State.setTables_owed (s : State) (t : Tables) : (s.setTables t).owed = s.owed := rfl

/-! ### setNoticed -/

@[simp] theorem State.setNoticed_ports (s : State) (l : List (Fin 324 × Edge)) : (s.setNoticed l).ports = s.ports := rfl
@[simp] theorem State.setNoticed_marks (s : State) (l : List (Fin 324 × Edge)) : (s.setNoticed l).marks = s.marks := rfl
@[simp] theorem State.setNoticed_tables (s : State) (l : List (Fin 324 × Edge)) : (s.setNoticed l).tables = s.tables := rfl
@[simp] theorem State.setNoticed_points (s : State) (l : List (Fin 324 × Edge)) : (s.setNoticed l).points = s.points := rfl
@[simp] theorem State.setNoticed_clock (s : State) (l : List (Fin 324 × Edge)) : (s.setNoticed l).clock = s.clock := rfl
@[simp] theorem State.setNoticed_phase (s : State) (l : List (Fin 324 × Edge)) : (s.setNoticed l).phase = s.phase := rfl
@[simp] theorem State.setNoticed_zones (s : State) (l : List (Fin 324 × Edge)) : (s.setNoticed l).zones = s.zones := rfl
@[simp] theorem State.setNoticed_overrides (s : State) (l : List (Fin 324 × Edge)) : (s.setNoticed l).overrides = s.overrides := rfl
@[simp] theorem State.setNoticed_heldPhase (s : State) (l : List (Fin 324 × Edge)) : (s.setNoticed l).heldPhase = s.heldPhase := rfl
@[simp] theorem State.setNoticed_accounts (s : State) (l : List (Fin 324 × Edge)) : (s.setNoticed l).accounts = s.accounts := rfl
@[simp] theorem State.setNoticed_loops (s : State) (l : List (Fin 324 × Edge)) : (s.setNoticed l).loops = s.loops := rfl
@[simp] theorem State.setNoticed_blinds (s : State) (l : List (Fin 324 × Edge)) : (s.setNoticed l).blinds = s.blinds := rfl
@[simp] theorem State.setNoticed_flags (s : State) (l : List (Fin 324 × Edge)) : (s.setNoticed l).flags = s.flags := rfl
@[simp] theorem State.setNoticed_actuators (s : State) (l : List (Fin 324 × Edge)) : (s.setNoticed l).actuators = s.actuators := rfl
@[simp] theorem State.setNoticed_load (s : State) (l : List (Fin 324 × Edge)) : (s.setNoticed l).load = s.load := rfl
@[simp] theorem State.setNoticed_save (s : State) (l : List (Fin 324 × Edge)) : (s.setNoticed l).save = s.save := rfl
@[simp] theorem State.setNoticed_noticed (s : State) (l : List (Fin 324 × Edge)) : (s.setNoticed l).noticed = l := rfl
@[simp] theorem State.setNoticed_store (s : State) (l : List (Fin 324 × Edge)) : (s.setNoticed l).store = s.store := rfl
@[simp] theorem State.setNoticed_resetting (s : State) (l : List (Fin 324 × Edge)) : (s.setNoticed l).resetting = s.resetting := rfl
@[simp] theorem State.setNoticed_deferred (s : State) (l : List (Fin 324 × Edge)) : (s.setNoticed l).deferred = s.deferred := rfl
@[simp] theorem State.setNoticed_held (s : State) (l : List (Fin 324 × Edge)) : (s.setNoticed l).held = s.held := rfl
@[simp] theorem State.setNoticed_free (s : State) (l : List (Fin 324 × Edge)) : (s.setNoticed l).free = s.free := rfl
@[simp] theorem State.setNoticed_pending (s : State) (l : List (Fin 324 × Edge)) : (s.setNoticed l).pending = s.pending := rfl
@[simp] theorem State.setNoticed_owed (s : State) (l : List (Fin 324 × Edge)) : (s.setNoticed l).owed = s.owed := rfl

/-! ### setLoad -/

@[simp] theorem State.setLoad_ports (s : State) (l : Option LoadCtx) : (s.setLoad l).ports = s.ports := rfl
@[simp] theorem State.setLoad_marks (s : State) (l : Option LoadCtx) : (s.setLoad l).marks = s.marks := rfl
@[simp] theorem State.setLoad_tables (s : State) (l : Option LoadCtx) : (s.setLoad l).tables = s.tables := rfl
@[simp] theorem State.setLoad_points (s : State) (l : Option LoadCtx) : (s.setLoad l).points = s.points := rfl
@[simp] theorem State.setLoad_clock (s : State) (l : Option LoadCtx) : (s.setLoad l).clock = s.clock := rfl
@[simp] theorem State.setLoad_phase (s : State) (l : Option LoadCtx) : (s.setLoad l).phase = s.phase := rfl
@[simp] theorem State.setLoad_zones (s : State) (l : Option LoadCtx) : (s.setLoad l).zones = s.zones := rfl
@[simp] theorem State.setLoad_overrides (s : State) (l : Option LoadCtx) : (s.setLoad l).overrides = s.overrides := rfl
@[simp] theorem State.setLoad_heldPhase (s : State) (l : Option LoadCtx) : (s.setLoad l).heldPhase = s.heldPhase := rfl
@[simp] theorem State.setLoad_accounts (s : State) (l : Option LoadCtx) : (s.setLoad l).accounts = s.accounts := rfl
@[simp] theorem State.setLoad_loops (s : State) (l : Option LoadCtx) : (s.setLoad l).loops = s.loops := rfl
@[simp] theorem State.setLoad_blinds (s : State) (l : Option LoadCtx) : (s.setLoad l).blinds = s.blinds := rfl
@[simp] theorem State.setLoad_flags (s : State) (l : Option LoadCtx) : (s.setLoad l).flags = s.flags := rfl
@[simp] theorem State.setLoad_actuators (s : State) (l : Option LoadCtx) : (s.setLoad l).actuators = s.actuators := rfl
@[simp] theorem State.setLoad_load (s : State) (l : Option LoadCtx) : (s.setLoad l).load = l := rfl
@[simp] theorem State.setLoad_save (s : State) (l : Option LoadCtx) : (s.setLoad l).save = s.save := rfl
@[simp] theorem State.setLoad_noticed (s : State) (l : Option LoadCtx) : (s.setLoad l).noticed = s.noticed := rfl
@[simp] theorem State.setLoad_store (s : State) (l : Option LoadCtx) : (s.setLoad l).store = s.store := rfl
@[simp] theorem State.setLoad_resetting (s : State) (l : Option LoadCtx) : (s.setLoad l).resetting = s.resetting := rfl
@[simp] theorem State.setLoad_deferred (s : State) (l : Option LoadCtx) : (s.setLoad l).deferred = s.deferred := rfl
@[simp] theorem State.setLoad_held (s : State) (l : Option LoadCtx) : (s.setLoad l).held = s.held := rfl
@[simp] theorem State.setLoad_free (s : State) (l : Option LoadCtx) : (s.setLoad l).free = s.free := rfl
@[simp] theorem State.setLoad_pending (s : State) (l : Option LoadCtx) : (s.setLoad l).pending = s.pending := rfl
@[simp] theorem State.setLoad_owed (s : State) (l : Option LoadCtx) : (s.setLoad l).owed = s.owed := rfl

/-! ### setClock -/

@[simp] theorem State.setClock_ports (s : State) (c : Clock) : (s.setClock c).ports = s.ports := rfl
@[simp] theorem State.setClock_marks (s : State) (c : Clock) : (s.setClock c).marks = s.marks := rfl
@[simp] theorem State.setClock_tables (s : State) (c : Clock) : (s.setClock c).tables = s.tables := rfl
@[simp] theorem State.setClock_points (s : State) (c : Clock) : (s.setClock c).points = s.points := rfl
@[simp] theorem State.setClock_clock (s : State) (c : Clock) : (s.setClock c).clock = c := rfl
@[simp] theorem State.setClock_phase (s : State) (c : Clock) : (s.setClock c).phase = s.phase := rfl
@[simp] theorem State.setClock_zones (s : State) (c : Clock) : (s.setClock c).zones = s.zones := rfl
@[simp] theorem State.setClock_overrides (s : State) (c : Clock) : (s.setClock c).overrides = s.overrides := rfl
@[simp] theorem State.setClock_heldPhase (s : State) (c : Clock) : (s.setClock c).heldPhase = s.heldPhase := rfl
@[simp] theorem State.setClock_accounts (s : State) (c : Clock) : (s.setClock c).accounts = s.accounts := rfl
@[simp] theorem State.setClock_loops (s : State) (c : Clock) : (s.setClock c).loops = s.loops := rfl
@[simp] theorem State.setClock_blinds (s : State) (c : Clock) : (s.setClock c).blinds = s.blinds := rfl
@[simp] theorem State.setClock_flags (s : State) (c : Clock) : (s.setClock c).flags = s.flags := rfl
@[simp] theorem State.setClock_actuators (s : State) (c : Clock) : (s.setClock c).actuators = s.actuators := rfl
@[simp] theorem State.setClock_load (s : State) (c : Clock) : (s.setClock c).load = s.load := rfl
@[simp] theorem State.setClock_save (s : State) (c : Clock) : (s.setClock c).save = s.save := rfl
@[simp] theorem State.setClock_noticed (s : State) (c : Clock) : (s.setClock c).noticed = s.noticed := rfl
@[simp] theorem State.setClock_store (s : State) (c : Clock) : (s.setClock c).store = s.store := rfl
@[simp] theorem State.setClock_resetting (s : State) (c : Clock) : (s.setClock c).resetting = s.resetting := rfl
@[simp] theorem State.setClock_deferred (s : State) (c : Clock) : (s.setClock c).deferred = s.deferred := rfl
@[simp] theorem State.setClock_held (s : State) (c : Clock) : (s.setClock c).held = s.held := rfl
@[simp] theorem State.setClock_free (s : State) (c : Clock) : (s.setClock c).free = s.free := rfl
@[simp] theorem State.setClock_pending (s : State) (c : Clock) : (s.setClock c).pending = s.pending := rfl
@[simp] theorem State.setClock_owed (s : State) (c : Clock) : (s.setClock c).owed = s.owed := rfl

/-! ### setPhase -/

@[simp] theorem State.setPhase_ports (s : State) (p : Phase) : (s.setPhase p).ports = s.ports := rfl
@[simp] theorem State.setPhase_marks (s : State) (p : Phase) : (s.setPhase p).marks = s.marks := rfl
@[simp] theorem State.setPhase_tables (s : State) (p : Phase) : (s.setPhase p).tables = s.tables := rfl
@[simp] theorem State.setPhase_points (s : State) (p : Phase) : (s.setPhase p).points = s.points := rfl
@[simp] theorem State.setPhase_clock (s : State) (p : Phase) : (s.setPhase p).clock = s.clock := rfl
@[simp] theorem State.setPhase_phase (s : State) (p : Phase) : (s.setPhase p).phase = p := rfl
@[simp] theorem State.setPhase_zones (s : State) (p : Phase) : (s.setPhase p).zones = s.zones := rfl
@[simp] theorem State.setPhase_overrides (s : State) (p : Phase) : (s.setPhase p).overrides = s.overrides := rfl
@[simp] theorem State.setPhase_heldPhase (s : State) (p : Phase) : (s.setPhase p).heldPhase = s.heldPhase := rfl
@[simp] theorem State.setPhase_accounts (s : State) (p : Phase) : (s.setPhase p).accounts = s.accounts := rfl
@[simp] theorem State.setPhase_loops (s : State) (p : Phase) : (s.setPhase p).loops = s.loops := rfl
@[simp] theorem State.setPhase_blinds (s : State) (p : Phase) : (s.setPhase p).blinds = s.blinds := rfl
@[simp] theorem State.setPhase_flags (s : State) (p : Phase) : (s.setPhase p).flags = s.flags := rfl
@[simp] theorem State.setPhase_actuators (s : State) (p : Phase) : (s.setPhase p).actuators = s.actuators := rfl
@[simp] theorem State.setPhase_load (s : State) (p : Phase) : (s.setPhase p).load = s.load := rfl
@[simp] theorem State.setPhase_save (s : State) (p : Phase) : (s.setPhase p).save = s.save := rfl
@[simp] theorem State.setPhase_noticed (s : State) (p : Phase) : (s.setPhase p).noticed = s.noticed := rfl
@[simp] theorem State.setPhase_store (s : State) (p : Phase) : (s.setPhase p).store = s.store := rfl
@[simp] theorem State.setPhase_resetting (s : State) (p : Phase) : (s.setPhase p).resetting = s.resetting := rfl
@[simp] theorem State.setPhase_deferred (s : State) (p : Phase) : (s.setPhase p).deferred = s.deferred := rfl
@[simp] theorem State.setPhase_held (s : State) (p : Phase) : (s.setPhase p).held = s.held := rfl
@[simp] theorem State.setPhase_free (s : State) (p : Phase) : (s.setPhase p).free = s.free := rfl
@[simp] theorem State.setPhase_pending (s : State) (p : Phase) : (s.setPhase p).pending = s.pending := rfl
@[simp] theorem State.setPhase_owed (s : State) (p : Phase) : (s.setPhase p).owed = s.owed := rfl

end Sys2Proof.Machine
end

