-- ==== Sys2Proof/Laws/Frames.lean ====
section
/-! SUPPORT. What each shared operation leaves unchanged: one lemma per operation, in the terms of Safety. -/

namespace Sys2Proof.Safety

open Sys2Proof.Machine

/-- A relation that operations may be chained through. -/
structure Chains (R : State → State → Prop) : Prop where
  refl : ∀ s, R s s
  trans : ∀ {s t u}, R s t → R t u → R s u
  free : ∀ s n, R s { s with free := n }

theorem Issues.refl (s : State) : Issues s s := by constructor <;> rfl

theorem Governs.refl (s : State) : Governs s s := by constructor <;> rfl

theorem Acts.refl (s : State) : Acts s s := by constructor <;> rfl

theorem Issues.trans {s t u : State} (h : Issues s t) (k : Issues t u) : Issues s u := by
  cases h; cases k; constructor <;> simp_all only

theorem Governs.trans {s t u : State} (h : Governs s t) (k : Governs t u) : Governs s u := by
  cases h; cases k; constructor <;> simp_all only

theorem Acts.trans {s t u : State} (h : Acts s t) (k : Acts t u) : Acts s u := by
  cases h; cases k; constructor <;> simp_all only

theorem Issues.governs {s t : State} (h : Issues s t) : Governs s t := by cases h; constructor <;> assumption

theorem Governs.acts {s t : State} (h : Governs s t) : Acts s t := by cases h; constructor <;> assumption

theorem Issues.acts {s t : State} (h : Issues s t) : Acts s t := h.governs.acts

theorem issues_chains : Chains Issues := ⟨Issues.refl, Issues.trans, fun _ _ => by constructor <;> rfl⟩

theorem governs_chains : Chains Governs := ⟨Governs.refl, Governs.trans, fun _ _ => by constructor <;> rfl⟩

theorem acts_chains : Chains Acts := ⟨Acts.refl, Acts.trans, fun _ _ => by constructor <;> rfl⟩

/-- Folding an operation keeps what the operation keeps. -/
theorem Chains.foldl {α : Type} {R : State → State → Prop} (hR : Chains R) {f : State → α → State} (hf : ∀ s x, R s (f s x)) :
    ∀ (l : List α) (s : State), R s (l.foldl f s)
  | [], s => hR.refl s
  | x :: xs, s => hR.trans (hf s x) (hR.foldl hf xs (f s x))

/-- Taking items in a free order keeps what taking one keeps. -/
theorem Chains.inFreeOrder {α : Type} {R : State → State → Prop} (hR : Chains R) {f : State → α → State} (hf : ∀ s x, R s (f s x))
    (l : List α) (s : State) : R s (Machine.inFreeOrder f l s) := by
  match l with
  | [] => exact hR.refl s
  | [x] => exact hf s x
  | x :: y :: rest => exact hR.trans (hR.free s _) (hR.foldl hf _ _)

/-! ### Queues and edges -/

theorem offer_issues (s : State) (p : Port) (e : QEntry) : Issues s (s.offer p e) := by
  unfold State.offer; split <;> constructor <;> rfl

theorem setNoticed_issues (s : State) (l : List (Fin 324 × Edge)) : Issues s (s.setNoticed l) := by constructor <;> rfl

theorem setPort_issues (s : State) (p : Port) (x : PortState) : Issues s (s.setPort p x) := by constructor <;> rfl

theorem setMark_issues (s : State) (a : Fin 64) (b : Bool) : Issues s (s.setMark a b) := by constructor <;> rfl

theorem setFlag_issues (s : State) (a : Fin 64) (b : Bool) : Issues s (s.setFlag a b) := by constructor <;> rfl

theorem setActuator_issues (s : State) (a : Fin 64) (d : ActDyn) : Issues s (s.setActuator a d) := by constructor <;> rfl

theorem setLoop_governs (s : State) (a : Fin 64) (c : LoopCtx) : Governs s (s.setLoop a c) := by constructor <;> rfl

theorem setBlind_governs (s : State) (z : Fin 16) (b : BlindState) : Governs s (s.setBlind z b) := by constructor <;> rfl

theorem setAccounts_governs (s : State) (v : Vector Account 128) : Governs s (s.setAccounts v) := by constructor <;> rfl

theorem setZone_acts (s : State) (z : Fin 16) (d : ZoneDyn) : Acts s (s.setZone z d) := by constructor <;> rfl

theorem setPoint_acts (s : State) (p : Fin 64) (d : PointDyn) : Acts s (s.setPoint p d) := by constructor <;> rfl

theorem setStack_acts (s : State) (z : Fin 16) (l : List Override) : Acts s (s.setStack z l) := by constructor <;> rfl

theorem setStore_acts (s : State) (x : Store) : Acts s (s.setStore x) := by constructor <;> rfl

theorem edge_issues (s : State) (src : Fin 324) (e : Edge) : Issues s (s.edge src e) := by
  unfold State.edge
  split
  · exact (setNoticed_issues _ _).trans (offer_issues _ _ _)
  · exact .refl s

theorem edges_issues (s : State) (es : List (Fin 324 × Edge)) : Issues s (s.edges es) := by
  unfold State.edges
  apply issues_chains.inFreeOrder
  intro s src
  apply issues_chains.foldl
  intro s e
  exact edge_issues s e.1 e.2

/-! ### Governor commands -/

theorem countQueued_issues (s : State) (a : Fin 64) (r : ActRec) (v : Int) : Issues s (s.countQueued a r v) := by
  unfold State.countQueued; dsimp only; split <;> constructor <;> rfl

theorem offerGovernor_issues (s : State) (a : Fin 64) (r : ActRec) (v : Int) : Issues s (s.offerGovernor a r v) := by
  unfold State.offerGovernor; dsimp only
  split
  · exact (setPort_issues _ _ _).trans (countQueued_issues _ _ _ _)
  · split
    · exact setMark_issues _ _ _
    · split
      · exact ((setPort_issues _ _ _).trans (setMark_issues _ _ _)).trans (countQueued_issues _ _ _ _)
      · split
        · exact ((setPort_issues _ _ _).trans (setMark_issues _ _ _)).trans (countQueued_issues _ _ _ _)
        · exact setMark_issues _ _ _

theorem reevaluate_issues (s : State) (a : Fin 64) : Issues s (s.reevaluate a) := by
  unfold State.reevaluate
  split
  · exact .refl s
  · split
    · split
      · exact .refl s
      · split
        · exact offerGovernor_issues _ _ _ _
        · exact .refl s
    · exact .refl s

theorem reevaluateAll_issues (s : State) (l : List (Fin 64)) : Issues s (s.reevaluateAll l) :=
  issues_chains.foldl reevaluate_issues l s

theorem serveMark_issues (s : State) (a : Fin 64) : Issues s (s.serveMark a) := by
  unfold State.serveMark
  split
  · exact setMark_issues _ _ _
  · split
    · exact setMark_issues _ _ _
    · exact (setMark_issues _ _ _).trans (offerGovernor_issues _ _ _ _)

theorem dropDeadMarks_issues (s : State) : Issues s s.dropDeadMarks := by
  unfold State.dropDeadMarks; constructor <;> rfl

theorem serviceMarks_issues (s : State) (g : Gallery) : Issues s (s.serviceMarks g) := by
  unfold State.serviceMarks
  split
  · exact dropDeadMarks_issues s
  · exact (dropDeadMarks_issues s).trans (serveMark_issues _ _)

/-! ### Actuator unit and climate governor -/

theorem offerLevel_issues (s : State) (a : Fin 64) (r : ActRec) : Issues s (s.offerLevel a r) := by
  unfold State.offerLevel
  split
  · exact offerGovernor_issues _ _ _ _
  · exact .refl s

theorem takeCommand_issues (s : State) (a : Fin 64) (payload : List Byte) : Issues s (s.takeCommand a payload) := by
  unfold State.takeCommand
  split
  · exact .refl s
  · split
    · exact .refl s
    · exact (setActuator_issues _ _ _).trans (offerLevel_issues _ _ _)

theorem moveActuator_issues (s : State) (a : Fin 64) (d : ActDyn) : Issues s (s.moveActuator a d) :=
  (setActuator_issues _ _ _).trans (edges_issues _ _)

theorem completionTold_issues (s : State) (a : Fin 64) : Issues s (s.completionTold a) := by
  unfold State.completionTold
  split
  · exact .refl s
  · split
    · exact moveActuator_issues _ _ _
    · exact .refl s

theorem takeFeedback_issues (s : State) (a : Fin 64) (payload : List Byte) : Issues s (s.takeFeedback a payload) := by
  unfold State.takeFeedback
  split
  · exact .refl s
  · split
    · exact .refl s
    · split
      · exact .refl s
      · dsimp only
        split
        · split <;> exact moveActuator_issues _ _ _
        · exact moveActuator_issues _ _ _

theorem climateStep_issues (s : State) (a : Fin 64) : Issues s (s.climateStep a) := by
  unfold State.climateStep
  split
  · exact .refl s
  · split
    · exact .refl s
    · dsimp only
      split
      · exact setFlag_issues _ _ _
      · split
        · exact setFlag_issues _ _ _
        · exact (setFlag_issues _ _ _).trans (offerLevel_issues _ _ _)

theorem climateMinute_issues (s : State) : Issues s s.climateMinute := by
  unfold State.climateMinute
  generalize List.finRange 64 = l
  exact issues_chains.foldl climateStep_issues l s

/-! ### Light governor -/

theorem moveLoop_governs (s : State) (a : Fin 64) (c : LoopCtx) : Governs s (s.moveLoop a c) := by
  unfold State.moveLoop
  split
  · exact setLoop_governs _ _ _
  · exact (setLoop_governs _ _ _).trans (reevaluate_issues _ _).governs

theorem loopSample_governs (s : State) (m : Int) (a : Fin 64) : Governs s (s.loopSample m a) := by
  unfold State.loopSample
  split
  · split
    · exact .refl s
    · split
      · exact moveLoop_governs _ _ _
      · exact setLoop_governs _ _ _
  all_goals exact .refl s

theorem lightSample_governs (s : State) (p : Fin 64) (m : Int) : Governs s (s.lightSample p m) := by
  unfold State.lightSample
  split
  · exact governs_chains.foldl (fun s a => loopSample_governs s m a) _ s
  · exact .refl s

theorem lightDeparture_governs (s : State) (p : Fin 64) : Governs s (s.lightDeparture p) :=
  governs_chains.foldl (fun s a => setLoop_governs s a _) _ s

theorem forceZero_governs (s : State) (l : List (Fin 64)) : Governs s (s.forceZero l) :=
  (governs_chains.foldl (fun s a => setLoop_governs s a _) l s).trans (reevaluateAll_issues _ _).governs

theorem lightModeAtLoops_governs (s : State) (z : Fin 16) : Governs s (s.lightModeAtLoops z) := by
  unfold State.lightModeAtLoops
  split
  · exact forceZero_governs _ _
  · exact .refl s

theorem objectsAtLoops_governs (s : State) (out : Fin 128 → Bool) : Governs s (s.objectsAtLoops out) := forceZero_governs _ _

theorem moveBlind_governs (s : State) (z : Fin 16) (b : BlindState) : Governs s (s.moveBlind z b) := by
  unfold State.moveBlind
  split
  · exact setBlind_governs _ _ _
  · exact (setBlind_governs _ _ _).trans (reevaluateAll_issues _ _).governs

theorem stepBlind_governs (s : State) (z : Fin 16) : Governs s (s.stepBlind z) := by
  unfold State.stepBlind
  split
  · exact .refl s
  · exact moveBlind_governs _ _ _

theorem lightMinute_governs (s : State) : Governs s s.lightMinute := governs_chains.inFreeOrder stepBlind_governs _ s

/-! ### Exposure unit -/

theorem commitAccounts_governs (s : State) (v : Vector Account 128) : Governs s (s.commitAccounts v) :=
  ((setAccounts_governs s v).trans (objectsAtLoops_governs _ _)).trans (edges_issues _ _).governs

theorem commitAccount_governs (s : State) (i : Fin 128) (x : Account) : Governs s (s.commitAccount i x) :=
  commitAccounts_governs _ _

theorem exposureMinute_governs (s : State) : Governs s s.exposureMinute := commitAccounts_governs _ _

theorem exposureDay_governs (s : State) (n : Nat) : Governs s (s.exposureDay n) := commitAccounts_governs _ _

theorem evaluateZone_governs (s : State) (z : Fin 16) : Governs s (s.evaluateZone z) := setAccounts_governs _ _

/-! ### Override unit -/

theorem deliver_governs (s : State) (z : Fin 16) (n : ZoneNews) : Governs s (s.deliver z n) := by
  cases n
  · exact evaluateZone_governs s z
  · exact lightModeAtLoops_governs s z
  · exact (reevaluateAll_issues s _).governs
  · exact (reevaluateAll_issues s _).governs

theorem changeStack_acts (s : State) (z : Fin 16) (l : List Override) (handed : Option Nat) :
    Acts s (s.changeStack z l handed) :=
  ((setStack_acts s z l).trans (setBlind_governs _ _ _).acts).trans
    (governs_chains.inFreeOrder (fun s n => deliver_governs s z n) _ _).acts

theorem expireZone_acts (s : State) (z : Fin 16) : Acts s (s.expireZone z) := by
  unfold State.expireZone; dsimp only
  split
  · exact .refl s
  · exact (edges_issues _ _).acts.trans (changeStack_acts _ _ _ _)

theorem overrideMinute_acts (s : State) : Acts s s.overrideMinute :=
  Acts.trans (by constructor <;> rfl) (acts_chains.foldl expireZone_acts _ _)

theorem takePhase_acts (s : State) : Acts s s.takePhase :=
  Acts.trans (by constructor <;> rfl)
    (acts_chains.foldl (fun t z => (governs_chains.inFreeOrder (fun t n => deliver_governs t z n) _ t).acts) _ _)

/-! ### Points and zones -/

theorem moveMeas_acts (s : State) (p : Fin 64) (d : MeasDyn) : Acts s (s.moveMeas p d) := by
  unfold State.moveMeas; dsimp only
  split
  · exact ((setPoint_acts _ _ _).trans (lightDeparture_governs _ _).acts).trans (edges_issues _ _).acts
  · exact (setPoint_acts _ _ _).trans (edges_issues _ _).acts

theorem takeSample_acts (s : State) (p : Fin 64) (payload : List Byte) : Acts s (s.takeSample p payload) := by
  unfold State.takeSample
  split
  · split
    · split
      · dsimp only
        split
        · exact (moveMeas_acts _ _ _).trans (lightSample_governs _ _ _).acts
        · exact moveMeas_acts _ _ _
      · exact moveMeas_acts _ _ _
    · exact moveMeas_acts _ _ _
  · exact .refl s

theorem setPresence_acts (s : State) (z : Fin 16) (b : Bool) (t : Option Nat) : Acts s (s.setPresence z b t) := by
  unfold State.setPresence; dsimp only
  split
  · exact setZone_acts _ _ _
  · exact (setZone_acts _ _ _).trans (reevaluateAll_issues _ _).acts

theorem countTold_acts (s : State) (z : Fin 16) (begins : Bool) : Acts s (s.countTold z begins) := by
  unfold State.countTold
  split
  · exact .refl s
  · split
    · exact setPresence_acts _ _ _ _
    · split
      · exact .refl s
      · exact setPresence_acts _ _ _ _

theorem movePres_acts (s : State) (p : Fin 64) (z : Fin 16) (d : PresDyn) : Acts s (s.movePres p z d) := by
  unfold State.movePres; dsimp only
  split
  · exact (setPoint_acts _ _ _).trans (edges_issues _ _).acts
  · exact ((setPoint_acts _ _ _).trans (countTold_acts _ _ _)).trans (edges_issues _ _).acts

theorem takePresence_acts (s : State) (p : Fin 64) (reading : Bool) : Acts s (s.takePresence p reading) := by
  unfold State.takePresence
  split
  · exact movePres_acts _ _ _ _
  · exact .refl s

theorem zoneMinute_acts (s : State) : Acts s s.zoneMinute :=
  Acts.trans (by constructor <;> rfl) (edges_issues _ _).acts

/-! ### Store -/

theorem startCheckpoint_acts (s : State) : Acts s s.startCheckpoint := setStore_acts _ _

theorem startSave_acts (s : State) : Acts s s.startSave := setStore_acts _ _

theorem checkpointDue_acts (s : State) : Acts s s.checkpointDue := by
  unfold State.checkpointDue; split <;> exact setStore_acts _ _

theorem storeMinute_acts (s : State) (minute : Nat) : Acts s (s.storeMinute minute) := by
  unfold State.storeMinute
  split
  · exact checkpointDue_acts s
  · exact .refl s

theorem startWaiting_acts (s : State) : Acts s s.startWaiting := by
  unfold State.startWaiting
  split
  · split
    · exact startSave_acts s
    · split
      · exact startCheckpoint_acts s
      · exact .refl s
  · exact .refl s

theorem moveStore_acts (s : State) (x : Store) : Acts s (s.moveStore x) := by
  unfold State.moveStore State.edgesOrDefer
  split
  · constructor <;> rfl
  · exact (setStore_acts _ _).trans (edges_issues _ _).acts

/-! ### Events of the calendar -/

theorem take_acts (s : State) (a : Act) : Acts s (s.take a) := by
  cases a
  · exact zoneMinute_acts s
  · exact overrideMinute_acts s
  · exact (exposureMinute_governs s).acts
  · exact (lightMinute_governs s).acts
  · exact (climateMinute_issues s).acts
  · exact storeMinute_acts s _
  · exact (exposureDay_governs s _).acts
  · exact checkpointDue_acts s
  · exact takePhase_acts s
  · exact (edges_issues s _).acts

/-! ### Ends of transmission -/

theorem relay_issues (s : State) (p : Port) (frame : List Byte) : Issues s (s.relay p frame) := by
  cases p
  · exact (offer_issues _ _ _).trans (offer_issues _ _ _)
  · exact offer_issues _ _ _
  · exact offer_issues _ _ _

theorem applyRate_issues (s : State) (p : Port) : Issues s (s.applyRate p) := by
  unfold State.applyRate
  split
  · exact setPort_issues _ _ _
  · exact .refl s

theorem takeService_issues (s : State) (g : Gallery) :
    Issues { s with owed := if s.owed = some g then none else s.owed } (s.takeService g) := by
  unfold State.takeService
  split
  · exact serviceMarks_issues _ _
  · exact .refl s

theorem endService_issues (s : State) (g : Gallery) : ∃ o, Issues { s with owed := o } (s.endService g) := by
  unfold State.endService; dsimp only
  split
  · exact ⟨some g, .refl _⟩
  · exact ⟨none, by simpa using takeService_issues { s with owed := some g } g⟩

theorem serviceAt_issues (s : State) (p : Port) : ∃ o, Issues { s with owed := o } (s.serviceAt p) := by
  cases p
  · exact ⟨s.owed, .refl s⟩
  · exact endService_issues s .g1
  · exact endService_issues s .g2

theorem toldComplete_issues (s : State) (e : QEntry) : Issues s (s.toldComplete e) := by
  cases e
  · exact .refl _
  · exact completionTold_issues _ _
  · exact .refl _
  · exact .refl _

theorem toldAbandoned_issues (s : State) (e : QEntry) : Issues s (s.toldAbandoned e) := by
  cases e
  · exact .refl _
  · exact setMark_issues _ _ _
  · exact .refl _
  · exact .refl _

/-- What keeps everything but an owed service and is followed by an end's service keeps everything but an owed service. -/
theorem serviceAt_after {s t : State} (h : Issues s t) (p : Port) : ∃ o, Issues { s with owed := o } (t.serviceAt p) := by
  obtain ⟨o, k⟩ := serviceAt_issues t p
  exact ⟨o, Issues.trans (by cases h; constructor <;> first | assumption | rfl) k⟩

theorem completeTransmission_issues (s : State) (p : Port) : ∃ o, Issues { s with owed := o } (s.completeTransmission p) := by
  unfold State.completeTransmission; dsimp only
  split
  · exact serviceAt_after (((setPort_issues _ _ _).trans (applyRate_issues _ _)).trans (toldComplete_issues _ _)) _
  · exact ⟨s.owed, .refl s⟩

theorem abandonTransmission_issues (s : State) (p : Port) : ∃ o, Issues { s with owed := o } (s.abandonTransmission p) := by
  unfold State.abandonTransmission; dsimp only
  split
  · exact serviceAt_after (((setPort_issues _ _ _).trans (applyRate_issues _ _)).trans (toldAbandoned_issues _ _)) _
  · exact ⟨s.owed, .refl s⟩

theorem startTransmission_issues (s : State) (p : Port) : Issues s (s.startTransmission p) := by
  unfold State.startTransmission
  split
  · exact setPort_issues _ _ _
  · exact .refl s

end Sys2Proof.Safety
end

