-- ==== Sys2Proof/Laws/Ports.lean ====
section
/-! SUPPORT. Ports, queues and edges: what reading a port after a write gives, what an offer and an edge do, and how a
transmission leaves its queue. -/

namespace Sys2Proof.Machine

open Sys2Proof.Safety

/-- Reading a port just written. -/
@[simp] theorem State.port_setPort (s : State) (p : Port) (x : PortState) : (s.setPort p x).port p = x := by
  cases p <;> rfl

/-- Reading another port than the one written. -/
theorem State.port_setPort_ne (s : State) {p q : Port} (h : q ≠ p) (x : PortState) : (s.setPort p x).port q = s.port q := by
  cases p <;> cases q <;> first | rfl | exact absurd rfl h

/-- The second of two writes of a port stands. -/
@[simp] theorem State.setPort_setPort (s : State) (p : Port) (x y : PortState) :
    (s.setPort p x).setPort p y = s.setPort p y := by
  cases p <;> rfl

/-- Writing what a port holds changes nothing. -/
@[simp] theorem State.setPort_port (s : State) (p : Port) : s.setPort p (s.port p) = s := by
  cases p <;> rfl

/-- An offer of R10 is a frame joining the queue of its port. -/
theorem State.offer_eq (s : State) (p : Port) (e : QEntry) :
    s.offer p e = s.setPort p (joined (capacity p) e (s.port p)) := by
  unfold State.offer joined
  split
  · rfl
  · exact (s.setPort_port p).symm

/-- No edges change nothing. -/
@[simp] theorem State.edges_nil (s : State) : s.edges [] = s := rfl

/-- One edge has one order. -/
@[simp] theorem State.edges_singleton (s : State) (src : Fin 324) (e : Edge) : s.edges [(src, e)] = s.edge src e := by
  have h : ([(src, e)].map (·.1)).eraseDups = [src] := rfl
  unfold State.edges
  rw [h]
  simp [Machine.inFreeOrder]

/-! ### Operations that rewrite a vector whole: the fields they leave, stated so that no proof compares the vectors -/

@[simp] theorem State.dropDeadMarks_ports (s : State) : s.dropDeadMarks.ports = s.ports := by unfold State.dropDeadMarks; rfl

@[simp] theorem State.dropDeadMarks_tables (s : State) : s.dropDeadMarks.tables = s.tables := by unfold State.dropDeadMarks; rfl

@[simp] theorem State.dropDeadMarks_points (s : State) : s.dropDeadMarks.points = s.points := by unfold State.dropDeadMarks; rfl

@[simp] theorem State.dropDeadMarks_clock (s : State) : s.dropDeadMarks.clock = s.clock := by unfold State.dropDeadMarks; rfl

@[simp] theorem State.dropDeadMarks_phase (s : State) : s.dropDeadMarks.phase = s.phase := by unfold State.dropDeadMarks; rfl

@[simp] theorem State.dropDeadMarks_zones (s : State) : s.dropDeadMarks.zones = s.zones := by unfold State.dropDeadMarks; rfl

@[simp] theorem State.dropDeadMarks_overrides (s : State) : s.dropDeadMarks.overrides = s.overrides := by unfold State.dropDeadMarks; rfl

@[simp] theorem State.dropDeadMarks_heldPhase (s : State) : s.dropDeadMarks.heldPhase = s.heldPhase := by unfold State.dropDeadMarks; rfl

@[simp] theorem State.dropDeadMarks_accounts (s : State) : s.dropDeadMarks.accounts = s.accounts := by unfold State.dropDeadMarks; rfl

@[simp] theorem State.dropDeadMarks_loops (s : State) : s.dropDeadMarks.loops = s.loops := by unfold State.dropDeadMarks; rfl

@[simp] theorem State.dropDeadMarks_blinds (s : State) : s.dropDeadMarks.blinds = s.blinds := by unfold State.dropDeadMarks; rfl

@[simp] theorem State.dropDeadMarks_flags (s : State) : s.dropDeadMarks.flags = s.flags := by unfold State.dropDeadMarks; rfl

@[simp] theorem State.dropDeadMarks_actuators (s : State) : s.dropDeadMarks.actuators = s.actuators := by unfold State.dropDeadMarks; rfl

@[simp] theorem State.dropDeadMarks_load (s : State) : s.dropDeadMarks.load = s.load := by unfold State.dropDeadMarks; rfl

@[simp] theorem State.dropDeadMarks_save (s : State) : s.dropDeadMarks.save = s.save := by unfold State.dropDeadMarks; rfl

@[simp] theorem State.dropDeadMarks_noticed (s : State) : s.dropDeadMarks.noticed = s.noticed := by unfold State.dropDeadMarks; rfl

@[simp] theorem State.dropDeadMarks_store (s : State) : s.dropDeadMarks.store = s.store := by unfold State.dropDeadMarks; rfl

@[simp] theorem State.dropDeadMarks_resetting (s : State) : s.dropDeadMarks.resetting = s.resetting := by unfold State.dropDeadMarks; rfl

@[simp] theorem State.dropDeadMarks_deferred (s : State) : s.dropDeadMarks.deferred = s.deferred := by unfold State.dropDeadMarks; rfl

@[simp] theorem State.dropDeadMarks_held (s : State) : s.dropDeadMarks.held = s.held := by unfold State.dropDeadMarks; rfl

@[simp] theorem State.dropDeadMarks_free (s : State) : s.dropDeadMarks.free = s.free := by unfold State.dropDeadMarks; rfl

@[simp] theorem State.dropDeadMarks_pending (s : State) : s.dropDeadMarks.pending = s.pending := by unfold State.dropDeadMarks; rfl

@[simp] theorem State.tickTimers_ports (s : State) : s.tickTimers.ports = s.ports := by unfold State.tickTimers; rfl

@[simp] theorem State.tickTimers_marks (s : State) : s.tickTimers.marks = s.marks := by unfold State.tickTimers; rfl

@[simp] theorem State.tickTimers_tables (s : State) : s.tickTimers.tables = s.tables := by unfold State.tickTimers; rfl

@[simp] theorem State.tickTimers_clock (s : State) : s.tickTimers.clock = s.clock := by unfold State.tickTimers; rfl

@[simp] theorem State.tickTimers_phase (s : State) : s.tickTimers.phase = s.phase := by unfold State.tickTimers; rfl

@[simp] theorem State.tickTimers_overrides (s : State) : s.tickTimers.overrides = s.overrides := by unfold State.tickTimers; rfl

@[simp] theorem State.tickTimers_heldPhase (s : State) : s.tickTimers.heldPhase = s.heldPhase := by unfold State.tickTimers; rfl

@[simp] theorem State.tickTimers_accounts (s : State) : s.tickTimers.accounts = s.accounts := by unfold State.tickTimers; rfl

@[simp] theorem State.tickTimers_loops (s : State) : s.tickTimers.loops = s.loops := by unfold State.tickTimers; rfl

@[simp] theorem State.tickTimers_blinds (s : State) : s.tickTimers.blinds = s.blinds := by unfold State.tickTimers; rfl

@[simp] theorem State.tickTimers_flags (s : State) : s.tickTimers.flags = s.flags := by unfold State.tickTimers; rfl

@[simp] theorem State.tickTimers_load (s : State) : s.tickTimers.load = s.load := by unfold State.tickTimers; rfl

@[simp] theorem State.tickTimers_save (s : State) : s.tickTimers.save = s.save := by unfold State.tickTimers; rfl

@[simp] theorem State.tickTimers_noticed (s : State) : s.tickTimers.noticed = s.noticed := by unfold State.tickTimers; rfl

@[simp] theorem State.tickTimers_store (s : State) : s.tickTimers.store = s.store := by unfold State.tickTimers; rfl

@[simp] theorem State.tickTimers_resetting (s : State) : s.tickTimers.resetting = s.resetting := by unfold State.tickTimers; rfl

@[simp] theorem State.tickTimers_deferred (s : State) : s.tickTimers.deferred = s.deferred := by unfold State.tickTimers; rfl

@[simp] theorem State.tickTimers_held (s : State) : s.tickTimers.held = s.held := by unfold State.tickTimers; rfl

@[simp] theorem State.tickTimers_free (s : State) : s.tickTimers.free = s.free := by unfold State.tickTimers; rfl

@[simp] theorem State.tickTimers_owed (s : State) : s.tickTimers.owed = s.owed := by unfold State.tickTimers; rfl

@[simp] theorem State.tickTimers_pending (s : State) : s.tickTimers.pending = s.pending := by unfold State.tickTimers; rfl

@[simp] theorem State.dropDeadMarks_mark (s : State) (a : Fin 64) :
    s.dropDeadMarks.marks[a] = (s.marks[a] && s.tables.actuators[a].isSome) := by
  simp [State.dropDeadMarks]

/-! ### Edges of a condition -/

@[simp] theorem edgesOf_same (src : Fin 324) (b : Bool) : edgesOf src b b = [] := by cases b <;> rfl

@[simp] theorem edgesOf_enter (src : Fin 324) : edgesOf src false true = [(src, .enter)] := rfl

@[simp] theorem edgesOf_exit (src : Fin 324) : edgesOf src true false = [(src, .exit)] := rfl

/-- A gallery port serves its marks once at an end of transmission. -/
@[simp] theorem State.serviceAt_line (s : State) (g : Gallery) : s.serviceAt g.line = s.endService g := by
  cases g <;> rfl

/-- A service that is owed is the service of the marks (R12). -/
theorem State.takeService_owed (s : State) (g : Gallery) (h : s.owed = some g) :
    s.takeService g = ({ s with owed := none } : State).serviceMarks g := if_pos h

/-- Without a service owed to it, SEND_PENDING_SERVICE changes nothing (R12). -/
theorem State.takeService_none (s : State) (g : Gallery) (h : s.owed ≠ some g) : s.takeService g = s := if_neg h

/-- Nothing is settled while no service is owed. -/
theorem State.settled_none (s : State) (h : s.owed = none) : s.settled = s := by
  unfold State.settled
  rw [h]

/-- A port whose head has left, with a changed rate in effect (R8, R13). -/
theorem State.applyRate_ended (s : State) (p : Port) (x : PortState) (h : x.queue = (s.port p).queue.drop 1)
    (htx : x.tx = none) (hquiet : x.quiet = false) (hrate : x.rate = (s.port p).rate)
    (hdue : x.rateDue = (s.port p).rateDue) (hasm : x.assembly = (s.port p).assembly) :
    (s.setPort p x).applyRate p = s.setPort p (freed (s.port p) (deviceRate s p)) := by
  obtain ⟨asm, queue, tx, quiet, rate, due⟩ := x
  simp only at h htx hquiet hrate hdue hasm
  subst h htx hquiet hrate hdue hasm
  unfold State.applyRate freed
  rw [State.port_setPort]
  cases (s.port p).rateDue
  · rfl
  · cases p <;> rfl

end Sys2Proof.Machine
end

