-- ==== Sys2Proof/Laws/Requests.lean ====
section
/-! SUPPORT. What the responder does with an answer: its REPLY, in the terms of the statements. -/

namespace Sys2Proof.Machine

open Sys2Proof.Safety

/-- An index at or above the bound is none. -/
theorem index?_eq_none {n b : Nat} (h : b ≤ n) : index? n b = none := by
  unfold index?
  rw [dif_neg (by omega)]

/-- An index below the bound is itself. -/
theorem index?_eq_some {n b : Nat} (i : Fin b) (h : i.val = n) : index? n b = some i := by
  unfold index?
  subst h
  simp

/-- The REPLY frame that the part builds is the bytes of 13.1. -/
theorem replyFrame_eq (node : Word) (channel name : Byte) (tag : Word) (st : Status) (data : List Byte) :
    replyFrame node channel ([name] ++ be16 tag) st data = replyBytes node channel name tag st data := by
  have h : ([name] ++ be16 tag ++ [st.code] ++ data).length = 4 + data.length := by simp [be16]; omega
  unfold replyFrame replyBytes buildFrame frameBody num8
  rw [h]
  simp [be16, startByte, FrameKind.code]

/-- A request replied (R168). -/
theorem State.replied_eq (s t : State) (name : Byte) (r : Request) (st : Status) (data : List Byte) :
    s.replied r.channel ([name] ++ be16 r.tag) (t, st, data) = answered s t name r st data := by
  unfold State.replied answered replying
  rw [State.offer_eq, replyFrame_eq]
  rfl

/-- A request served outside a reset is replied with what it comes to. -/
theorem State.serve_eq (s : State) (name : Byte) (r : Request) (f : State → List Byte → Answer) (h : s.resetting = none)
    (a : Answer) (hf : f s r.params = a) : s.serve name r f = answered s a.1 name r a.2.1 a.2.2 := by
  unfold State.serve
  rw [if_neg (by simp [h]), hf, ← State.replied_eq]

/-- A request refused outside a reset changes nothing but the queue of B. -/
theorem State.serve_refused (s : State) (name : Byte) (r : Request) (f : State → List Byte → Answer) (h : s.resetting = none)
    (st : Status) (hf : f s r.params = refuse s st) : s.serve name r f = answered s s name r st [] := by
  rw [State.serve_eq s name r f h _ hf]
  rfl

/-- A request during a reset has no effect (R181). -/
theorem State.serve_resetting (s : State) (name : Byte) (r : Request) (f : State → List Byte → Answer)
    (h : s.resetting ≠ none) : s.serve name r f = s := by
  unfold State.serve
  cases hr : s.resetting with
  | none => exact absurd hr h
  | some x => simp

end Sys2Proof.Machine
end

