-- ==== Sys2Proof/Tests/Slice0.lean ====
section
/-! SUPPORT. Tests: the checks of WellFormed, worked cases of the manual, and for each statement with hypotheses one
theorem that shows a state and operands that meet them. -/

namespace Sys2Proof.Tests

open Sys2Proof.Machine Sys2Proof.Safety

-- One test at a time: each evaluates in the kernel, on a thread with a large stack.
set_option Elab.async false

/-! ### WellFormed refuses, check by check -/

/-- A SAMPLE frame of node 0x0210 on channel 1 with the payload 0x01 0x2C (2.7, frame 1). -/
def sampleFrame : List Byte := buildFrame .sample 0x0210 1 [0x01, 0x2C]

theorem test_wf_frame : (Instr.frameArrival .g1 sampleFrame).wf = true := by decide +kernel
theorem test_wf_frame_start : (Instr.frameArrival .g1 (0x7F :: sampleFrame.drop 1)).wf = false := by decide +kernel
theorem test_wf_frame_length : (Instr.frameArrival .g1 (sampleFrame ++ [0])).wf = false := by decide +kernel
theorem test_wf_frame_long :
    (Instr.frameArrival .g1 ([0x7E, 1, 0, 0, 0, 65] ++ List.replicate 67 0)).wf = false := by decide +kernel
theorem test_wf_request_long : (Instr.setTime ⟨0, 0, List.replicate 62 0⟩).wf = false := by decide +kernel
theorem test_wf_request : (Instr.setTime ⟨0, 0, List.replicate 61 0⟩).wf = true := by decide +kernel
theorem test_wf_unknown_named : (Instr.unknownRequest 0 [0x10, 0, 0]).wf = false := by decide +kernel
theorem test_wf_unknown_long : (Instr.unknownRequest 0 (List.replicate 65 0x77)).wf = false := by decide +kernel
theorem test_wf_unknown : (Instr.unknownRequest 0 [0x77, 0, 0]).wf = true := by decide +kernel
theorem test_wf_bad_twice : (Instr.checkpointWriteEnd [3, 3]).wf = false := by decide +kernel
theorem test_wf_written_and_torn : (Instr.powerOnReset [3] [3]).wf = false := by decide +kernel

/-- No word spells a command: no row of the table gives bits. -/
theorem test_no_word_spells_a_command : decodeTableWord 16 0 = none ∧ ∀ s : State, s.withFetchWord 16 0 = s :=
  ⟨rfl, fun _ => rfl⟩

/-! ### Worked cases of the manual -/

/-- R190: the check value of the CRC over the nine characters 1 to 9. -/
theorem test_crc_check_value : crc [0x31, 0x32, 0x33, 0x34, 0x35, 0x36, 0x37, 0x38, 0x39] = 0x29B1 := by decide +kernel

/-- 3.3.3: a quarter weight, and a half rounded away from zero on the negative side. -/
theorem test_smoothing : smooth 1024 30720 200 = 35840 ∧ reported 42624 = 167 ∧ smooth 2048 (-512) (-3) = -640 ∧
    reported (-640) = -3 := by decide +kernel

/-- 8.5, step 1, and the half rounded away from zero. -/
theorem test_loop_step : loopStep 2048 512 800 150 180 ⟨153600, some (-20), true⟩ = ⟨153460, some (-30), true⟩ ∧
    loopStep 2048 484 800 150 182 ⟨153600, some (-22), true⟩ = ⟨153459, some (-32), true⟩ := by decide +kernel

/-- 5.7, minutes 602 to 604. -/
theorem test_recovery : (⟨.excursion, some .high, 0⟩ : CondMachine).evaluated ⟨4500, 5500, 4000, 6000, 3⟩ (some 5400) =
    ⟨.recovering, some .high, 3⟩ := by decide +kernel

/-- 10.7: two expiries in one minute. -/
theorem test_splice :
    removeAll [⟨.event 80 600, 5, some 0⟩, ⟨.climateHold, 7, none⟩, ⟨.inspection 300 650, 9, some 4⟩, ⟨.dark 700, 2, some 0⟩] [3, 0] =
      ([⟨.climateHold, 7, none⟩, ⟨.inspection 300 600, 9, some 4⟩], some 700) := by decide +kernel

/-- 10.7, as the statements say it. -/
theorem test_splice_stated :
    expiredOut none
      [⟨.event 80 600, 5, some 0⟩, ⟨.climateHold, 7, none⟩, ⟨.inspection 300 650, 9, some 4⟩, ⟨.dark 700, 2, some 0⟩] =
        ([⟨.climateHold, 7, none⟩, ⟨.inspection 300 600, 9, some 4⟩], some 700) := by decide +kernel

/-- 6.7, minute 840. -/
theorem test_allowance : (ObjectRec.mk 77 1 6 none none 150 365 50 30 10).allowanceOf 5500000 200 = 21212 := by decide +kernel

/-! ### States for the witnesses -/

/-- A port that may send and receive. -/
def freePort : PortState := ⟨.idle, [], none, true, .r38400, false⟩

/-- After a completed reset, with nothing loaded. -/
def calm : State := { State.reset with resetting := none, deferred := [], ports := ⟨freePort, freePort, freePort⟩ }

def lightPoint : MeasRec := ⟨.illum, 1, 1024, 0, 65000, 300, 600, 3, 2⟩
def detector : PresRec := ⟨1, 300, 10⟩
def spot : ActRec := ⟨.spot 9 2048 512 800 20, .g1, 0x0241, 0, 1, none⟩
def blind : ActRec := ⟨.blind 1000 50, .g2, 0x0250, 0, 1, some ⟨10, 30⟩⟩
def humidifier : ActRec := ⟨.rhSp 10, .g2, 0x0260, 0, 1, none⟩
def work : ObjectRec := ⟨77, 1, 4, some ⟨5, 100⟩, some 12, 150, 365, 50, 30, 10⟩
def roomZone : ZoneRec := ⟨⟨4500, 5500, 4000, 6000, 3⟩, ⟨1500, 2500, 1000, 3000, 3⟩, 300, 150, 100, 800, 3, 20, 15, 15, 50⟩
def lightValid : MeasDyn := ⟨.valid, some 30720, none, some 120, 0, 2, some 600⟩
def detectorOn : PresDyn := ⟨.active, true, some 300, some 600⟩

/-- A classification entry for every frame of a kind on a port. -/
def anyNode (kind : ClassKind) (port : ArrivalPort) (target : Target) : ClassEntry :=
  ⟨kind, port, 0, 0xFFFF, 0, 0xFF, false, 0, false, false, target, 0, List.replicate 8 0⟩

/-- One room with a work, its light, a detector, a spotlight, a blind and a humidifier. -/
def room : State := { calm with
  tables := { factoryTables with
    points := (factoryTables.points.set 4 (some (.meas lightPoint))).set 40 (some (.pres detector))
    actuators := ((factoryTables.actuators.set 12 (some spot)).set 20 (some blind)).set 30 (some humidifier)
    objects := factoryTables.objects.set 9 (some work)
    zones := factoryTables.zones.set 1 (some roomZone)
    classifier := (factoryTables.classifier.set 0 (some (anyNode .sample .anyG (.toPoint 4)))).set 1
      (some (anyNode .command .b (.toActuator 12))) }
  points := (calm.points.set 4 (.meas lightValid)).set 40 (.pres detectorOn)
  accounts := calm.accounts.set 9 ⟨0, 0, 0, 24657, 0, 50, .pacing, false, false, false⟩
  actuators := (calm.actuators.set 12 ⟨some 400, some 380, none, .normal, none⟩).set 30 ⟨some 5000, some 5000, none, .normal, none⟩
  loops := calm.loops.set 12 ⟨102400, some 0, true⟩ }

/-- A state whose assembly on G1 stands as given. -/
def hearing (x : Assembly) : State := calm.setPort .g1 { freePort with assembly := x }

/-- A state whose G1 queue stands as given. -/
def queued (s : State) (q : List QEntry) (tx : Option Nat) : State := s.setPort .g1 { freePort with queue := q, tx := tx }

/-- The room with the light point as given. -/
def lit (d : MeasDyn) : State := { room with points := room.points.set 4 (.meas d) }

/-- The room with the detector as given. -/
def watched (d : PresDyn) : State := { room with points := room.points.set 40 (.pres d) }

/-- The room with the stack of zone 1 as given. -/
def overridden (l : List Override) : State := { room with overrides := room.overrides.set 1 l }

/-- The room one second before a minute boundary, at a minute of day. -/
def lastSecond (minute : Nat) : State := { room with clock := ⟨3125, 2, minute, 59, false⟩ }

/-- The room with a load of the SCHEDULE open at its last entry. -/
def loading : State := { room with load := some ⟨.schedule, 22, true, 1⟩ }

/-- The room with a save waiting behind a checkpoint. -/
def saveWaits : State := { room with
  save := some ⟨0x7F00, 1, 2⟩
  store := { Store.blank with write := .checkpoint (ckptCopy room), saveWaiting := true } }

/-- The room with a save in progress. -/
def saves (due : Bool) : State := { room with
  save := some ⟨0x7F00, 1, 2⟩
  store := { Store.blank with write := .save room.tables, due := due } }

/-- The room with a checkpoint in progress, over a first good record of object 9. -/
def checkpoints : State := { room with store := { Store.blank with
  write := .checkpoint (ckptCopy room)
  slots := Store.blank.slots.set 9 ⟨some ⟨1, ⟨77, 0, 0, 0, 0, 0, false, false⟩⟩, none⟩ } }

/-- The room with an image that holds its tables. -/
def kept : State := { room with store := { Store.blank with image := ⟨room.tables, imageCheck room.tables⟩ } }

/-! ### Witnesses: a state and operands that meet the hypotheses of a statement, clause by clause -/

theorem test_witness_StepRunsTheFrontCommand : State.reset.pending = [] := rfl

theorem test_witness_BuiltFramesAreGood : (List.replicate 64 (0x7E : Byte)).length ≤ 64 := by decide

theorem test_witness_ReceptionOfBytes :
    calm.resetting = none ∧ (calm.port .g1).tx = none ∧ (calm.port .g1).assembly = .idle ∧
    (State.reset.port .g1).tx = none ∧ (State.reset.port .g1).assembly = .discarding ∧
    (((hearing (.assembling [0x7E, 1, 0, 0])).port .g1).assembly = .assembling [0x7E, 1, 0, 0] ∧
      ([0x7E, 1, 0, 0] ++ [9] : List Byte).length < 6) ∧
    (let whole := ([0x7E, 1, 0, 0, 0] ++ [65] : List Byte);
      6 ≤ whole.length ∧ 64 < (whole.getD 5 0).toNat) ∧
    (let whole := ([0x7E, 8, 0, 0, 0] ++ [64] : List Byte);
      6 ≤ whole.length ∧ kindOfCode (whole.getD 1 0) = none) ∧
    (let whole := ([0x7E, 1, 0, 0, 0] ++ [64] : List Byte);
      6 ≤ whole.length ∧ (whole.getD 5 0).toNat ≤ 64 ∧ kindOfCode (whole.getD 1 0) ≠ none ∧
        whole.length < 8 + (whole.getD 5 0).toNat) ∧
    (let whole := ([0x7E, 1, 0, 0, 0, 0, 0xAB] ++ [0xCD] : List Byte);
      6 ≤ whole.length ∧ (whole.getD 5 0).toNat ≤ 64 ∧ kindOfCode (whole.getD 1 0) ≠ none ∧
        8 + (whole.getD 5 0).toNat ≤ whole.length) := by decide +kernel

theorem test_witness_TransmissionAndReadBack :
    (((queued calm [.relayed [0x7E, 1]] none).port .g1).queue ≠ [] ∧
      ((queued calm [.relayed [0x7E, 1]] none).port .g1).tx = none ∧
      ((queued calm [.relayed [0x7E, 1]] none).port .g1).assembly = .idle ∧
      ((queued calm [.relayed [0x7E, 1]] none).port .g1).quiet = true) ∧
    (calm.port .g1).queue = [] ∧
    (((queued calm [.relayed [0x7E, 1]] (some 0)).port .g1).tx = some 0 ∧
      ((queued calm [.relayed [0x7E, 1]] (some 0)).port .g1).queue = .relayed [0x7E, 1] :: []) ∧
    ((QEntry.relayed [0x7E, 1]).bytes[0]? = some 0x7E ∧ 0 + 1 < (QEntry.relayed [0x7E, 1]).bytes.length) ∧
    ((QEntry.relayed [0x7E, 1]).bytes[1]? = some 1 ∧ 1 + 1 = (QEntry.relayed [0x7E, 1]).bytes.length) ∧
    (QEntry.relayed [0x7E, 1]).bytes[0]? ≠ some 0x7F := by decide +kernel

theorem test_witness_EndsOfTransmissionServeOnce :
    (calm.port .b).queue = [] ∧
    (calm.pending.head? ≠ some (.sendPendingService .g1) ∧
      ({ calm with pending := [.sendPendingService .g1] } : State).pending.head? = some (.sendPendingService .g1)) ∧
    (((queued calm [.relayed [0x7E]] (some 0)).port Gallery.g1.line).tx = some 0 ∧
      ((queued calm [.relayed [0x7E]] (some 0)).port .g1).queue = .relayed [0x7E] :: [] ∧
      ∀ a node channel level, QEntry.relayed [0x7E] ≠ .governor a node channel level) ∧
    (((room.setPort .g2 ⟨.idle, [.governor 20 0x0250 0 500], some 3, false, .r38400, true⟩).port .g2).queue =
        .governor 20 0x0250 0 500 :: [] ∧
      Port.g2 = Gallery.g2.line ∧ room.tables.actuators[(20 : Fin 64)] = some blind ∧ blind.feedback = some ⟨10, 30⟩ ∧
      (room.setActuator 20 ⟨none, some 500, none, .fault, some 0⟩).actuators[(20 : Fin 64)].sent = some 500) ∧
    (room.tables.actuators[(12 : Fin 64)].bind (·.feedback)) = none ∧ room.actuators[(20 : Fin 64)].sent = none :=
  ⟨by decide +kernel, by decide +kernel, ⟨by decide +kernel, by decide +kernel, fun _ _ _ _ h => QEntry.noConfusion h⟩,
    by decide +kernel, by decide +kernel, by decide +kernel⟩

/-- The room with entries for its detector and for the feedback of its blind. -/
def sensed : State := { room with tables := { room.tables with
  classifier := (room.tables.classifier.set 2 (some { anyNode .presence .anyG (.toPoint 40) with
    presencePresent := true, presenceIsPresent := true })).set 3 (some (anyNode .feedback .anyG (.toActuator 20))) } }

theorem test_witness_FramesAreRelayedOrLeaveNoTrace_used :
    (arrives sensed .g1 (buildFrame .presence 0x0220 0 [1]) .presence ∧ frameGood (buildFrame .presence 0x0220 0 [1]) = true ∧
      classify sensed.tables .presence .g1 (buildFrame .presence 0x0220 0 [1]) = .point 40 true) ∧
    (arrives sensed .g2 (buildFrame .feedback 0x0250 0 [1, 0xF4]) .feedback ∧
      frameGood (buildFrame .feedback 0x0250 0 [1, 0xF4]) = true ∧
      classify sensed.tables .feedback .g2 (buildFrame .feedback 0x0250 0 [1, 0xF4]) = .actuator 20) := by
  unfold arrives
  decide +kernel

/-- Frames on a port of the room that can take them. -/
theorem test_witness_FramesAreRelayedOrLeaveNoTrace :
    (arrives room .g1 sampleFrame .sample ∧ frameGood sampleFrame = true ∧ room.ports.b.queue.length < 31 ∧
      classify room.tables .sample .g1 sampleFrame = .point 4 false) ∧
    (arrives room .g1 [0x7E, 1, 0, 0, 0, 0, 0, 0] .sample ∧ frameGood [0x7E, 1, 0, 0, 0, 0, 0, 0] = false) ∧
    (arrives room .b (buildFrame .manage 0x0001 0 []) .manage ∧ frameGood (buildFrame .manage 0x0001 0 []) = true ∧
      frameNode (buildFrame .manage 0x0001 0 []) ≠ room.tables.device.ownNode) ∧
    (arrives room .g2 (buildFrame .manage 0x7F00 0 []) .manage ∧ frameGood (buildFrame .manage 0x7F00 0 []) = true ∧
      frameNode (buildFrame .manage 0x7F00 0 []) = room.tables.device.ownNode) ∧
    (classify room.tables .reply .g1 (buildFrame .reply 0x0100 0 []) = .unmatched ∧
      arrives room .g1 (buildFrame .reply 0x0100 0 []) .reply ∧ frameGood (buildFrame .reply 0x0100 0 []) = true) ∧
    (arrives calm .g1 sampleFrame .sample ∧
      classify { factoryTables with classifier := factoryTables.classifier.set 95 (some (anyNode .any .anyG (.drop 0))) }
        .sample .g1 sampleFrame = .drop ∧
      classify { factoryTables with classifier := factoryTables.classifier.set 95 (some (anyNode .any .anyG (.pass 0))) }
        .sample .g1 sampleFrame = .pass) := by
  unfold arrives
  decide +kernel

theorem test_witness_RequestFrameRunsItsRequest :
    room.owed = none ∧ ([0x60] ++ be16 7 ++ [3] : List Byte).length ≤ 64 ∧ ([3] : List Byte).head? ≠ some 0x01 ∧
    ([3] : List Byte).head? ≠ some 0x02 ∧ room.resetting = none ∧ State.reset.resetting ≠ none ∧
    (State.reset.setPort .b freePort).owed = none ∧
    (room.port .b).tx = none ∧ (room.port .b).assembly = .idle ∧
    ([0x10] ++ be16 7 ++ List.replicate 61 0 : List Byte).length ≤ 64 ∧
    requestCommand 0x10 ⟨0, 7, List.replicate 61 0⟩ = some (.setTime ⟨0, 7, List.replicate 61 0⟩) ∧
    unknownPayload (List.replicate 64 0x77) = true := by decide +kernel

theorem test_witness_TheFirstMatchDecides :
    (∀ (i : Fin 96) (e : ClassEntry), factoryTables.classifier[i] = some e → e.fitsFrame .sample .g1 sampleFrame = false) ∧
    (let e := anyNode .sample .anyG (.toPoint 4);
      let t := { factoryTables with classifier := factoryTables.classifier.set 95 (some e) };
      t.classifier[(95 : Fin 96)] = some e ∧ e.fitsFrame .sample .g1 sampleFrame = true ∧
        ∀ (j : Fin 96) (x : ClassEntry), j < 95 → t.classifier[j] = some x → x.fitsFrame .sample .g1 sampleFrame = false) ∧
    ((anyNode .sample .anyG (.toPoint 4)).target = .toPoint 4 ∧ (anyNode .sample .anyG (.pass 0)).target = .pass 0 ∧
      (anyNode .sample .anyG (.drop 0)).target = .drop 0 ∧ (anyNode .command .b (.toActuator 12)).target = .toActuator 12) :=
  ⟨fun i e h => by simp [factoryTables] at h,
    ⟨by decide +kernel, by decide +kernel, fun j x hj h => by
      have : (95 : Nat) ≠ j.val := by have := Fin.lt_def.mp hj; omega
      simp [factoryTables, Vector.getElem_set_ne _ _ this] at h⟩,
    by decide +kernel⟩

theorem test_witness_CommandFramesAreAnswered :
    (arrives room .b (buildFrame .command 0x0241 0 [1, 0x90]) .command ∧
      frameGood (buildFrame .command 0x0241 0 [1, 0x90]) = true ∧
      classify room.tables .command .b (buildFrame .command 0x0241 0 [1, 0x90]) = .actuator 12 ∧
      room.tables.actuators[(12 : Fin 64)] = some spot ∧ 2 ≤ frameLength (buildFrame .command 0x0241 0 [1, 0x90])) ∧
    (arrives room .b (buildFrame .command 0x0241 0 [1]) .command ∧
      frameGood (buildFrame .command 0x0241 0 [1]) = true ∧
      classify room.tables .command .b (buildFrame .command 0x0241 0 [1]) = .actuator 12 ∧
      frameLength (buildFrame .command 0x0241 0 [1]) < 2) := by
  unfold arrives
  decide +kernel

/-- A full queue of GOVERNOR entries for other actuators than 12. -/
def otherCommands : List QEntry := ((List.finRange 64).drop 20).take 24 |>.map (fun a => .governor a 0 0 1)

theorem test_witness_GovernorOffersTakeTheFirstCase :
    (((queued room [.relayed [1], .governor 12 0x0241 0 5] (some 0)).port spot.port.line).queue =
        [.relayed [1]] ++ [] ++ [.governor 12 0x0241 0 5] ++ [] ∧
      [QEntry.relayed [1]].length = sendingCount ((queued room [.relayed [1], .governor 12 0x0241 0 5] (some 0)).port .g1)) ∧
    (((queued room [.governor 12 0x0241 0 5] (some 0)).port spot.port.line).tx ≠ none ∧
      ((queued room [.governor 12 0x0241 0 5] (some 0)).port .g1).queue = .governor 12 0x0241 0 5 :: []) ∧
    ((∀ x ∈ (room.port spot.port.line).queue, x.isGovernor 12 = false) ∧
      (room.port spot.port.line).queue.length < capacity spot.port.line) ∧
    (let q := otherCommands.take 23 ++ [.relayed [1]];
      (∀ x ∈ q, x.isGovernor 12 = false) ∧ capacity .g1 ≤ q.length ∧
        q = otherCommands.take 1 ++ (otherCommands.take 23).drop 1 ++ [.relayed [1]] ++ [] ∧
        (otherCommands.take 1).length = sendingCount ((queued room q (some 0)).port .g1) ∧
        ∀ x ∈ (otherCommands.take 23).drop 1, x.isRelayed = false) ∧
    ((∀ x ∈ otherCommands, x.isGovernor 12 = false) ∧ capacity .g1 ≤ otherCommands.length ∧
      ∀ x ∈ otherCommands.drop (sendingCount ((queued room otherCommands none).port .g1)), x.isRelayed = false) := by
  decide +kernel

theorem test_witness_SendPendingServesTheLowestMark :
    (room.owed ≠ some .g1 ∧ ({ room with owed := some .g1 } : State).owed = some .g1) ∧
    (∀ (a : Fin 64) (r : ActRec), calm.tables.actuators[a] = some r → r.port = .g1 → calm.marks[a] = false) ∧
    (let s := room.setMark 12 true;
      s.tables.actuators[(12 : Fin 64)] = some spot ∧ spot.port = .g1 ∧ s.marks[(12 : Fin 64)] = true ∧
        (∀ b : Fin 64, b < 12 → s.marks[b] = false) ∧ effectiveLevel s 12 spot = some 400) ∧
    (let s := (room.setMark 30 true).setActuator 30 ⟨none, none, none, .normal, none⟩;
      s.tables.actuators[(30 : Fin 64)] = some humidifier ∧ humidifier.port = .g2 ∧ s.marks[(30 : Fin 64)] = true ∧
        (∀ b : Fin 64, b < 30 → s.marks[b] = false) ∧ effectiveLevel s 30 humidifier = none) :=
  ⟨by decide +kernel, fun a r _ _ => by simp [calm, State.reset], by decide +kernel, by decide +kernel⟩

/-- R12: with no end of transmission owed, the service of the marks changes nothing. -/
theorem test_no_service_without_an_end : exec (.sendPendingService .g1) (room.setMark 12 true) = .next (room.setMark 12 true) := rfl

/-- R12: an end of transmission leaves its one service to the command that stands next. -/
theorem test_service_is_left_to_the_next_command :
    (({ room with pending := [.sendPendingService .g1] } : State).endService .g1).owed = some .g1 ∧
      (room.endService .g1).owed = none := ⟨rfl, rfl⟩

/-- R83, R126: a loop whose object is not in use follows point 0. -/
theorem test_unused_object_follows_point_0 :
    (let s := { room with tables := { room.tables with objects := factoryTables.objects } };
      loopPoint s 12 = some 0 ∧ (s.lightDeparture 0).loops[(12 : Fin 64)] = ⟨102400, none, false⟩ ∧
        (s.lightDeparture 4).loops[(12 : Fin 64)] = ⟨102400, some 0, true⟩) := by decide +kernel

theorem test_witness_EffectiveLevelsAndTheSendTest :
    spot.kind = .spot 9 2048 512 800 20 ∧ blind.kind = .blind 1000 50 ∧
    (lightMode room 1 = .open ∧ lightMode (overridden [⟨.dark 0, 1, none⟩]) 1 = .dark) ∧
    (room.tables.actuators[(12 : Fin 64)] = some spot ∧ spot.kind.isLight = true ∧ effectiveLevel room 12 spot = some 400 ∧
      room.actuators[(12 : Fin 64)].sent = some 380 ∧ spot.kind.deadband ≤ ((400 : Int) - 380).natAbs) ∧
    (effectiveLevel (overridden [⟨.dark 0, 1, none⟩]) 20 blind = some 0 ∧ room.actuators[(20 : Fin 64)].sent = none) := by
  decide +kernel

theorem test_witness_FeedbackSupervision :
    ((room.setActuator 20 ⟨none, some 500, none, .await, some 0⟩).actuators[(20 : Fin 64)].state = .await ∧
      (room.setActuator 20 ⟨none, some 500, none, .await, some 0⟩).actuators[(20 : Fin 64)].timer = some 0) ∧
    room.actuators[(20 : Fin 64)].state ≠ .await ∧
    (room.tables.actuators[(20 : Fin 64)] = some blind ∧ blind.feedback = some ⟨10, 30⟩ ∧
      ([1] : List Byte).length < 2 ∧ 2 ≤ (num16 510).length ∧
      (room.setActuator 20 ⟨none, some 500, none, .await, some 0⟩).actuators[(20 : Fin 64)].sent = some 500 ∧
      (blind.kind.value (num16 510) - 500).natAbs ≤ 10 ∧ 10 < (blind.kind.value (num16 511) - 500).natAbs) := by
  decide +kernel

theorem test_witness_MeasurementPointsTakeSamplesAndExpiries :
    (room.tables.points[(4 : Fin 64)] = some (.meas lightPoint) ∧ room.points[(4 : Fin 64)] = .meas lightValid ∧
      lightValid.y ≠ none) ∧
    (∀ x, ¬ BringsPlausible lightPoint lightValid [1] x) ∧
    min (lightValid.errors + 1) (lightPoint.errThreshold + 1) ≠ lightPoint.errThreshold + 1 ∧
    min (({ lightValid with errors := 3 } : MeasDyn).errors + 1) (lightPoint.errThreshold + 1) = lightPoint.errThreshold + 1 ∧
    BringsPlausible lightPoint lightValid (num16 420) 420 ∧
    (∀ d ∈ [(⟨.suspect, none, none, some 120, 2, 0, none⟩ : MeasDyn), ⟨.suspect, none, none, some 120, 1, 0, none⟩,
        ⟨.stale, none, none, none, 0, 0, none⟩, ⟨.warming, none, none, none, 0, 0, none⟩,
        ⟨.warming, some 30720, none, some 120, 0, 1, none⟩],
      (lit d).points[(4 : Fin 64)] = .meas d ∧ ∃ x, BringsPlausible lightPoint d (num16 120) x) := by
  refine ⟨by decide +kernel, fun x h => absurd h.1 (by decide), by decide, by decide,
    ⟨by decide, by decide +kernel, by decide, by decide, .inr (.inr ⟨120, rfl, by decide⟩)⟩, ?_⟩
  simp only [List.forall_mem_cons]
  refine ⟨⟨by decide +kernel, 120, ?_⟩, ⟨by decide +kernel, 120, ?_⟩, ⟨by decide +kernel, 120, ?_⟩, ⟨by decide +kernel, 120, ?_⟩,
    ⟨by decide +kernel, 120, ?_⟩, by simp⟩
  · exact ⟨by decide, by decide +kernel, by decide, by decide, .inr (.inr ⟨120, rfl, by decide⟩)⟩
  · exact ⟨by decide, by decide +kernel, by decide, by decide, .inr (.inr ⟨120, rfl, by decide⟩)⟩
  · exact ⟨by decide, by decide +kernel, by decide, by decide, .inr (.inl rfl)⟩
  · exact ⟨by decide, by decide +kernel, by decide, by decide, .inr (.inl rfl)⟩
  · exact ⟨by decide, by decide +kernel, by decide, by decide, .inr (.inr ⟨120, rfl, by decide⟩)⟩

theorem test_witness_MeasurementPointsTakeSamplesAndExpiries_told :
    (let n := takePlausible lightPoint lightValid 420;
      n.state = .valid ∧ n.y = some (smooth lightPoint.k 30720 420) ∧
        (room.takeSample 4 (num16 420)).points[(4 : Fin 64)] = .meas n) ∧
    (let n := takePlausible lightPoint ⟨.stale, none, none, none, 0, 0, none⟩ 120;
      n.state = .warming ∧ (lit ⟨.stale, none, none, none, 0, 0, none⟩).points[(4 : Fin 64)] = .meas ⟨.stale, none, none, none, 0, 0, none⟩) := by
  decide +kernel

theorem test_witness_SmoothingNeverPassesTheSample : 0 < 4096 ∧ 4096 ≤ 4096 := by decide

theorem test_witness_MeasurementPointsTakeSamplesAndExpiries_expiries :
    (lit { lightValid with timer := some 0 }).points[(4 : Fin 64)] = .meas { lightValid with timer := some 0 } ∧
    (lit ⟨.warming, some 30720, none, some 120, 0, 1, some 0⟩).points[(4 : Fin 64)] =
      .meas ⟨.warming, some 30720, none, some 120, 0, 1, some 0⟩ ∧
    lightValid.timer ≠ some 0 := by decide +kernel

theorem test_witness_PresencePointsTakeFramesAndExpiries :
    (room.tables.zones[detector.zone] ≠ none ∧ calm.tables.zones[detector.zone] = none ∧ ¬ othersCount room 1 40 ∧
      (detectorOn.state = .active ∧ detectorOn.reading = true) ∧
      ¬ ((⟨.active, false, none, none⟩ : PresDyn).state = .active ∧ (⟨.active, false, none, none⟩ : PresDyn).reading = true)) ∧
    othersCount { room with
      tables := { room.tables with points := room.tables.points.set 41 (some (.pres detector)) }
      points := room.points.set 41 (.pres detectorOn) } 1 40 ∧
    room.tables.points[(40 : Fin 64)] = some (.pres detector) ∧
    (∀ d ∈ [detectorOn, ⟨.stale, true, none, none⟩, ⟨.stuck, true, some 5, none⟩, ⟨.active, true, some 5, some 0⟩,
        ⟨.stuck, true, some 0, none⟩], (watched d).points[(40 : Fin 64)] = .pres d) ∧
    (∀ q : Fin 64, q ≠ 40 → room.points[q].counts = false) ∧ room.tables.zones[(1 : Fin 16)] = some roomZone := by
  refine ⟨⟨by decide +kernel, by decide +kernel, ?_, by decide, by decide⟩,
    ⟨41, by decide, ⟨detector, by decide +kernel, rfl⟩, by decide +kernel⟩, ?_⟩
  · rintro ⟨q, hq, -, h⟩
    exact absurd h ((by decide +kernel : ∀ q : Fin 64, q ≠ 40 → ¬ room.points[q].counts = true) q hq)
  · decide +kernel

theorem test_witness_TheClockAdvances :
    State.reset.resetting = some (.reloaded .powerOn) ∧
    room.resetting ≠ some (.reloaded .powerOn) ∧ (lastSecond 0).resetting ≠ some (.reloaded .powerOn) ∧
    room.clock.second < 59 ∧ ¬ (lastSecond 0).clock.second < 59 := by decide +kernel

theorem test_witness_TheClockAdvances_boundaries :
    (∀ stage ∈ [ResetStage.hardWait, .hardCheckpoint, .softWait, .reloaded .hard],
      ({ lastSecond 1439 with resetting := some stage } : State).resetting ≠ some (.reloaded .powerOn)) ∧
    (lastSecond 1439).resetting = none ∧ 59 ≤ (lastSecond 1439).clock.second ∧ (lastSecond 1439).clock.unset = false ∧
    phaseOf room.tables (lastSecond 1439).clock.advanced ≠ (lastSecond 1439).phase := by decide +kernel

/-- A SET_TIME to day 3127 at 23:59:59 on a Saturday. -/
def timeRequest : Request := ⟨0, 7, num16 3127 ++ [6] ++ num16 1439 ++ [59]⟩

theorem test_witness_ThePhaseIsEvaluatedAndDelivered :
    ((lastSecond 1439).resetting = none ∧ (lastSecond 1439).clock.second = 59) ∧
    (serving room ∧ 6 ≤ timeRequest.params.length ∧ (clockOf timeRequest.params).inRange = true) ∧
    ∃ t, room.writeEntry .schedule 22 (encodeHoliday (some 3125)) = .ok t :=
  ⟨by decide +kernel, by unfold serving; decide +kernel, ⟨_, rfl⟩⟩

theorem test_witness_ThePhaseIsEvaluatedAndDelivered_deliveries :
    (let s := { room with clock := ⟨3127, 2, 700, 0, false⟩ };
      serving s ∧ 6 ≤ timeRequest.params.length ∧ (clockOf timeRequest.params).inRange = true ∧ s.clock.unset = false ∧
        (clockOf timeRequest.params).day ≤ s.clock.day) ∧
    (let s := { room with phase := .closed };
      topLight s.overrides[(1 : Fin 16)] = none ∧ s.tables.objects[(9 : Fin 128)] = some work ∧ work.zone = 1 ∧
        modeOf s.overrides[(1 : Fin 16)] s.phase = .closed ∧ lightMode s 1 = .open ∧ phaseNews s 1 = [.evaluate, .loops, .lights] ∧
        spotFields s.tables.actuators[(12 : Fin 64)] = some (9, 800, 1) ∧ spotFields s.tables.actuators[(20 : Fin 64)] = none) ∧
    (topLight (overridden [⟨.dark 0, 1, none⟩]).overrides[(1 : Fin 16)] ≠ none ∧
      phaseNews { overridden [⟨.dark 0, 1, none⟩] with phase := .closed } 1 = []) ∧
    room.tables.objects[(0 : Fin 128)] = none := by
  unfold serving
  decide +kernel

theorem test_witness_SetTimeSetsTheClock :
    serving room ∧ room.clock.unset = true ∧ (timeRequest.params.take 5).length < 6 ∧ timeRequest.params = [0x0C, 0x37, 6, 0x05, 0x9F, 59] ++ [] ∧
    (6 : Byte).toNat ≤ 6 ∧ ((0x05 : Byte) ++ (0x9F : Byte)).toNat ≤ 1439 ∧ (59 : Byte).toNat ≤ 59 ∧
    6 < (7 : Byte).toNat ∧ 1439 < ((0x05 : Byte) ++ (0xA0 : Byte)).toNat ∧ 59 < (60 : Byte).toNat := by
  unfold serving
  decide +kernel

theorem test_witness_AMinuteAccruesDose :
    ((lastSecond 1438).resetting = none ∧ (lastSecond 1438).clock.second = 59 ∧ (lastSecond 1438).clock.minute < 1439) ∧
    calm.tables.objects[(9 : Fin 128)] = none ∧ (lastSecond 1438).tables.objects[(9 : Fin 128)] = some work ∧
    LuxOfMinute (lastSecond 1438) work 120 false ∧ work.uv = some ⟨5, 100⟩ ∧
    validReading (lastSecond 1438) 5 .uv = none ∧
    (let s := { room with
        tables := { room.tables with points := room.tables.points.set 5 (some (.meas { lightPoint with kind := .uv })) }
        points := room.points.set 5 (.meas lightValid) };
      validReading s 5 .uv = some 120) :=
  ⟨by decide +kernel, by decide +kernel, by decide +kernel,
    .inl ⟨30720, ⟨⟨lightPoint, by decide +kernel, by decide⟩, lightValid, by decide +kernel, by decide, by decide⟩,
      by decide +kernel, rfl⟩,
    by decide, by decide +kernel, by decide +kernel⟩

theorem test_witness_AMinuteAccruesDose_exhausts :
    (let s := { lastSecond 700 with accounts := room.accounts.set 9 { room.accounts[(9 : Fin 128)] with before := 9000000 } };
      s.resetting = none ∧ s.clock.second = 59 ∧ s.clock.minute < 1439 ∧ s.accounts[(9 : Fin 128)].state ≠ .exhausted ∧
        work.budget * 60000 ≤ min (s.accounts[(9 : Fin 128)].before + min (s.accounts[(9 : Fin 128)].today + 120) 4294967295) 4294967295 ∧
        spotFields s.tables.actuators[(12 : Fin 64)] = some (9, 800, 1)) := by decide +kernel

theorem test_witness_ADayBoundaryRollsAccounts :
    (let s := lastSecond 700;
      serving s ∧ 6 ≤ timeRequest.params.length ∧ (clockOf timeRequest.params).inRange = true ∧ s.clock.unset = false ∧
        s.clock.day < (clockOf timeRequest.params).day) ∧
    room.tables.objects[(9 : Fin 128)] = some work ∧ room.tables.objects[(0 : Fin 128)] = none ∧ 0 < work.budget ∧
    work.period ≤ 363 + ((clockOf timeRequest.params).day - 3125) ∧
    ¬ work.period ≤ 362 + ((clockOf timeRequest.params).day - 3125) := by
  unfold serving
  decide +kernel

theorem test_witness_ADayBoundaryRollsAccounts_midnight :
    (let s := lastSecond 1439;
      s.resetting = none ∧ s.clock.second = 59 ∧ s.clock.minute = 1439 ∧ s.clock.unset = false ∧
        s.tables.objects[(9 : Fin 128)] = some work ∧ LuxOfMinute s work 120 false) ∧
    (let s := { lastSecond 1439 with clock := ⟨0, 0, 1439, 59, true⟩ };
      s.resetting = none ∧ s.clock.second = 59 ∧ s.clock.minute = 1439 ∧ s.clock.unset = true) :=
  ⟨⟨rfl, rfl, rfl, rfl, by decide +kernel,
    .inl ⟨30720, ⟨⟨lightPoint, by decide +kernel, by decide⟩, lightValid, by decide +kernel, by decide, by decide⟩,
      by decide +kernel, rfl⟩⟩, rfl, rfl, rfl, rfl⟩

/-- The account of 6.7 at minute 840. -/
def pacingAccount : Account := ⟨5500000, 11400, 200, 21212, 0, 40, .pacing, false, false, false⟩

theorem test_witness_PermittedIlluminanceFollowsItsTable :
    ({ pacingAccount with state := .exhausted } : Account).state ≠ .pacing ∧ pacingAccount.state = .pacing ∧
    lightMode (overridden [⟨.inspection 300 0, 1, none⟩]) work.zone = .inspect ∧ lightMode room work.zone = .open ∧
    (room.clock.unset = true ∧ room.phase = .open) ∧
    ((lastSecond 840).clock.unset = false ∧ (lastSecond 840).phase = .open ∧
      (2 : Fin 7).val = (lastSecond 840).clock.dow) ∧
    (let s := { overridden [⟨.event 80 0, 1, some 90⟩] with phase := .closed };
      lightMode s work.zone = .open ∧ s.phase = .closed ∧
        topLight s.overrides[work.zone] = some ⟨.event 80 0, 1, some 90⟩) ∧
    ({ room with phase := .closed }).phase = .closed ∧ topLight room.overrides[work.zone] = none := by decide +kernel

theorem test_witness_PeriodStartAndDoseSetReplaceTheAccount :
    (Request.mk 0 7 []).params = [] ∧ (Request.mk 0 7 [128, 0, 0, 0, 1]).params = 128 :: [0, 0, 0, 1] ∧ 127 < (128 : Byte).toNat ∧
    4 ≤ ([0, 0, 0, 1] : List Byte).length ∧ ([0, 0, 0] : List Byte).length < 4 ∧ (127 : Fin 128).val = (127 : Byte).toNat ∧
    room.tables.objects[(127 : Fin 128)] = none ∧
    serving room ∧ room.save = none ∧ room.tables.objects[(9 : Fin 128)] = some work ∧
    (Request.mk 0 7 [9]).params = BitVec.ofNat 8 (9 : Fin 128).val :: [] ∧
    (Request.mk 0 7 [9, 0xFF, 0xFF, 0xFF, 0xFF]).params = [BitVec.ofNat 8 (9 : Fin 128).val] ++ be32 0xFFFFFFFF ++ [] := by
  unfold serving
  decide +kernel

theorem test_witness_PresencePointsTakeFramesAndExpiries_absence :
    (let s := room.setZone 1 { ZoneDyn.unused with absence := some 0 };
      s.tables.zones[(1 : Fin 16)] ≠ none ∧ s.zones[(1 : Fin 16)].absence = some 0) ∧
    room.zones[(1 : Fin 16)].absence ≠ some 0 := by decide +kernel

/-- Zone 1 at a boundary with an RH estimate of 5000 and an entry of an hour ago. -/
def measured : State := { lastSecond 700 with
  tables := { room.tables with points := room.tables.points.set 6 (some (.meas { lightPoint with kind := .rh })) }
  points := room.points.set 6 (.meas { lightValid with y := some 1280000 })
  zones := room.zones.set 1 { ZoneDyn.unused with ring := ZoneDyn.unused.ring.set 0 (some 4699) } }

theorem test_witness_AMinuteEvaluatesTheZones :
    measured.resetting = none ∧ measured.clock.second = 59 ∧ measured.tables.zones[(0 : Fin 16)] = none ∧
    measured.tables.zones[(1 : Fin 16)] = some roomZone ∧ estimate (validValues measured 1 .rh) = some 5000 ∧
    measured.zones[(1 : Fin 16)].ring[0] = some 4699 ∧ roomZone.rateLimit < ((5000 : Int) - 4699).natAbs ∧
    estimate (validValues measured 1 .temp) = none := by decide +kernel

theorem test_witness_ValidSamplesStepTheLoops :
    (room.tables.objects[(9 : Fin 128)] ≠ none ∧ calm.tables.objects[(9 : Fin 128)] = none) ∧
    ((⟨204800, none, false⟩ : LoopCtx).ePrev = none ∧ (⟨204800, none, false⟩ : LoopCtx).u ≤ 800 * 256 ∧
      (50 : Int) ≤ (50 : Nat) ∧ ((50 : Nat) : Int) ≤ 51) ∧
    isMeasOf room 5 .illum = false ∧
    (room.tables.actuators[(12 : Fin 64)] = some ⟨.spot 9 2048 512 800 20, .g1, 0x0241, 0, 1, none⟩ ∧
      isMeasOf room 4 .illum = true ∧ loopPoint room 12 = some 4 ∧ room.accounts[(9 : Fin 128)].state = .pacing ∧
      lightMode room 1 = .open) ∧
    (let s := overridden [⟨.dark 0, 1, none⟩];
      s.tables.actuators[(12 : Fin 64)] = some spot ∧ isMeasOf s 4 .illum = true ∧ loopPoint s 12 = some 4 ∧
        lightMode s 1 = .dark) := by decide +kernel

theorem test_witness_ValidSamplesStepTheLoops_caps :
    ((loopStep 2048 512 800 50 120 room.loops[(12 : Fin 64)]).u / 256 ≠ room.loops[(12 : Fin 64)].u / 256 ∧
      (loopStep 2048 512 800 50 50 room.loops[(12 : Fin 64)]).u / 256 = room.loops[(12 : Fin 64)].u / 256) ∧
    (room.tables.actuators[(12 : Fin 64)] = some spot ∧ room.tables.objects[(9 : Fin 128)] ≠ none ∧
      room.accounts[(9 : Fin 128)].state = .pacing ∧ lightMode room 1 = .open) ∧
    (let s := overridden [⟨.dark 0, 1, none⟩];
      s.tables.actuators[(12 : Fin 64)] = some spot ∧ lightMode s 1 = .dark ∧ 256 ≤ s.loops[(12 : Fin 64)].u) ∧
    (let s := { room with tables := { room.tables with objects := factoryTables.objects } };
      s.tables.actuators[(12 : Fin 64)] = some spot ∧ s.tables.objects[(9 : Fin 128)] = none) := by decide +kernel

theorem test_witness_SetpointValuesKeepTheBandAndTheSlew :
    (calm.tables.zones[humidifier.zone] = none ∧ room.tables.zones[humidifier.zone] = some roomZone ∧
      room.actuators[(30 : Fin 64)].requested = some 5000 ∧ room.actuators[(31 : Fin 64)].requested = none) ∧
    humidifier.kind.isLight = false ∧
    targetOf (room.setActuator 30 ⟨none, none, none, .normal, none⟩) 30 humidifier = none ∧
    (targetOf room 30 humidifier = some 5000 ∧ (bandOf room humidifier).1 ≤ (bandOf room humidifier).2 ∧
      room.tables.zones[humidifier.zone] ≠ none ∧ room.actuators[(30 : Fin 64)].sent = some 5000 ∧
      (bandOf room humidifier).1 ≤ 5000 ∧ (5000 : Int) ≤ (bandOf room humidifier).2) ∧
    targetOf (room.setActuator 30 ⟨some 4500, none, none, .normal, none⟩) 30 humidifier = some 4500 ∧
    isHeld (overridden [⟨.climateHold, 7, none⟩]) humidifier = true ∧
    isHeld room humidifier = false ∧ room.flags[(30 : Fin 64)] = false ∧
    (((5010 : Int) - 5000).natAbs ≤ humidifier.kind.slew ∧ humidifier.kind.slew < ((5011 : Int) - 5000).natAbs) := by
  decide +kernel

theorem test_witness_ClimateMinutesStepSetpointsOnce :
    (let s := lastSecond 700;
      s.resetting = none ∧ s.clock.second = 59 ∧ (s.tables.actuators[(12 : Fin 64)] = some spot ∧ spot.kind.isLight = true) ∧
        s.tables.actuators[(30 : Fin 64)] = some humidifier ∧ humidifier.kind.isLight = false ∧
        targetOf s 30 humidifier = some 5000 ∧ s.actuators[(30 : Fin 64)].sent = some 5000) ∧
    (let s := queued ((lastSecond 700).setActuator 30 ⟨some 5000, some 4900, none, .normal, none⟩) [] none;
      rateHeld s humidifier = false ∧ holdOf s.overrides[humidifier.zone] = false ∧ targetOf s 30 humidifier = some 5000 ∧
        s.actuators[(30 : Fin 64)].sent ≠ some 5000) ∧
    (let s := (lastSecond 700).setPort .g2 { freePort with queue := [.governor 30 0x0260 0 4900] };
      ∃ e ∈ (s.port humidifier.port.line).waiting, e.isGovernor 30 = true) := by decide +kernel

theorem test_witness_PushesAppendOneEntry :
    serving room ∧ (List.replicate 7 (0 : Byte)).length < 8 ∧
    (Request.mk 0 7 [1, 1, 9, 1, 240, 1, 0x07, 0xD0]).params = [1, 1, 9, 1, 240, 1, 0x07, 0xD0] ++ [] ∧
    ((1 : Byte) = 1 ∧ (0 : Byte) = 0) ∧ ((0x07 : Byte) ++ (0xD1 : Byte)).toNat = 2001 ∧
    ((0x07 : Byte) ++ (0xD0 : Byte)).toNat = 2000 ∧
    ((1 : Fin 16).val = (1 : Byte).toNat ∧ room.tables.zones[(1 : Fin 16)] ≠ none ∧ room.overrides[(1 : Fin 16)].length < 4) ∧
    ((0 : Fin 16).val = (0 : Byte).toNat ∧ room.tables.zones[(0 : Fin 16)] = none) ∧
    (let s := overridden (List.replicate 4 ⟨.climateHold, 7, none⟩);
      s.tables.zones[(1 : Fin 16)] ≠ none ∧ 4 ≤ s.overrides[(1 : Fin 16)].length) := by
  unfold serving
  decide +kernel

theorem test_witness_PopsAndClearsHandOverTheSavedCap :
    serving room ∧ ([1] : List Byte).length < 2 ∧ (Request.mk 0 7 [1, 9]).params = [1, 9] ++ [] ∧
    15 < (16 : Byte).toNat ∧ (1 : Fin 16).val = (1 : Byte).toNat ∧ room.overrides[(1 : Fin 16)] = [] ∧
    (overridden [⟨.climateHold, 7, none⟩, ⟨.dark 700, 9, some 1⟩]).overrides[(1 : Fin 16)] =
      [⟨.climateHold, 7, none⟩] ++ [⟨.dark 700, 9, some 1⟩] ∧
    ((8 : Byte) ≠ 0 ∧ (8 : Byte) ≠ 9) := by
  unfold serving
  decide +kernel

theorem test_witness_CancelsSpliceTheSavedCap :
    serving room ∧ ([1] : List Byte).length < 2 ∧ (Request.mk 0 7 [1, 5]).params = [1, 5] ++ [] ∧
    (1 : Fin 16).val = (1 : Byte).toNat ∧ (5 : Byte) ≠ 0 ∧ (∀ x ∈ room.overrides[(1 : Fin 16)], x.tag ≠ 5) ∧
    (let s := overridden [⟨.event 80 600, 5, some 1⟩, ⟨.climateHold, 7, none⟩, ⟨.inspection 300 650, 9, some 5⟩];
      s.overrides[(1 : Fin 16)] = [] ++ [⟨.event 80 600, 5, some 1⟩] ++ [⟨.climateHold, 7, none⟩, ⟨.inspection 300 650, 9, some 5⟩] ∧
        (∀ x ∈ ([⟨.climateHold, 7, none⟩, ⟨.inspection 300 650, 9, some 5⟩] : List Override), x.tag ≠ 5) ∧
        (OverrideBody.event 80 600).saved = some 600 ∧
        (∀ x ∈ ([⟨.climateHold, 7, none⟩] : List Override), x.body.isLight = false) ∧
        (OverrideBody.inspection 300 650).isLight = true) ∧
    OverrideBody.climateHold.saved = none := by
  unfold serving
  decide +kernel

theorem test_witness_PopsAndClearsHandOverTheSavedCap_clears :
    serving room ∧ (Request.mk 0 7 []).params = [] ∧ (Request.mk 0 7 [1]).params = 1 :: [] ∧ 15 < (16 : Byte).toNat ∧
    (1 : Fin 16).val = (1 : Byte).toNat ∧ (∀ x ∈ room.overrides[(1 : Fin 16)], x.body.isLight = false) ∧
    room.overrides[(1 : Fin 16)] = [] ∧ (Request.mk 0 7 [16]).params = 16 :: [] ∧
    (overridden [⟨.climateHold, 7, none⟩, ⟨.dark 700, 9, none⟩, ⟨.dark 0, 9, none⟩]).overrides[(1 : Fin 16)] =
      [⟨.climateHold, 7, none⟩] ++ [⟨.dark 700, 9, none⟩] ++ [⟨.dark 0, 9, none⟩] ∧
    (OverrideBody.dark 700).saved = some 700 := by
  unfold serving
  decide +kernel

theorem test_witness_MinutesExpireOverrides :
    (let s := { overridden [⟨.dark 700, 9, some 1⟩] with clock := ⟨3125, 2, 700, 59, false⟩ };
      s.resetting = none ∧ s.clock.second = 59 ∧
        ∃ e ∈ s.overrides[(1 : Fin 16)].map (fun e => { e with expiry := e.expiry.map (· - 1) }), e.expiry = some 0) := by
  decide +kernel

theorem test_witness_MinutesExpireOverrides_hand_over :
    (let s := overridden [⟨.event 80 600, 5, some 0⟩, ⟨.climateHold, 7, none⟩, ⟨.dark 700, 9, some 0⟩];
      (∃ e ∈ s.overrides[(1 : Fin 16)], e.expiry = some 0) ∧ (∀ e ∈ s.overrides[(2 : Fin 16)], e.expiry ≠ some 0) ∧
        (expiredOut none s.overrides[(1 : Fin 16)]).2 = some 600 ∧ s.tables.zones[(1 : Fin 16)] = some roomZone ∧
        s.tables.zones[(2 : Fin 16)] = none) ∧
    (expiredOut none [⟨.event 80 600, 5, some 0⟩, ⟨.dark 700, 9, none⟩]).2 = none := by decide +kernel

/-- The five queries share their hypotheses. -/
theorem test_witness_DeviceObjectAndPointQueries_and_ActuatorQueries_and_ZoneQueries :
    serving room ∧ (Request.mk 0 7 []).params = [] ∧ (Request.mk 0 7 [9]).params = 9 :: [] ∧
    (9 : Fin 128).val = (9 : Byte).toNat ∧ 127 < (128 : Byte).toNat ∧ 63 < (64 : Byte).toNat ∧ 15 < (16 : Byte).toNat ∧
    (Request.mk 0 7 [63, 2]).params = [63, 2] ++ [] ∧ ((63 : Fin 64).val = (63 : Byte).toNat) ∧
    room.points[(63 : Fin 64)] = .unused ∧ room.points[(40 : Fin 64)] = .pres detectorOn ∧
    room.points[(4 : Fin 64)] = .meas lightValid ∧ room.tables.actuators[(63 : Fin 64)] = none ∧
    room.tables.actuators[(12 : Fin 64)] = some spot ∧ spot.kind = .spot 9 2048 512 800 20 ∧
    room.tables.actuators[(20 : Fin 64)] = some blind ∧ blind.kind = .blind 1000 50 ∧
    room.tables.actuators[(30 : Fin 64)] = some humidifier ∧ humidifier.kind = .rhSp 10 ∧
    (⟨.tempSp 10, .g2, 0x0260, 0, 1, none⟩ : ActRec).kind = .tempSp 10 ∧ (15 : Fin 16).val = (15 : Byte).toNat ∧
    (3 : Byte) ≠ 1 ∧ (3 : Byte) ≠ 2 := by
  unfold serving
  decide +kernel

theorem test_witness_LoadsOpenAndCloseAndEntriesRead :
    serving room ∧ room.load = none ∧ loading.load = some ⟨.schedule, 22, true, 1⟩ ∧
    (Request.mk 0 7 [7, 0, 22]).params = [7, 0, 22] ++ [] ∧ tableOfCode (7 : Byte).toNat = some .schedule ∧
    readEntry room.tables .schedule ((0 : Byte) ++ (22 : Byte)).toNat = some [0, 0, 0] ∧
    TableName.schedule.size ≤ ((0 : Byte) ++ (23 : Byte)).toNat ∧ tableOfCode (9 : Byte).toNat = none ∧ room.save = none ∧
    (Request.mk 0 7 [7, 0, 22, 0xFF, 0, 23]).params = [7, 0, 22, 0xFF, 0, 23] ++ [] ∧
    0 < ((0 : Byte) ++ (23 : Byte)).toNat ∧ (22 : Int) - (23 - 1) = 0 ∧ (22 : Int) - (24 - 1) < 0 := by
  unfold serving
  decide +kernel

theorem test_witness_LoadEntriesWriteOneEntry :
    serving loading ∧ loading.save = none ∧ room.load = none ∧ loading.load = some ⟨.schedule, 22, true, 1⟩ ∧
    (∃ t, loading.writeEntry .schedule 22 [1, 0x0C, 0x80] = .ok t) ∧
    loading.writeEntry .schedule 22 [1, 0x0C] = .error .malformed ∧ (22 : Nat) < TableName.schedule.size ∧
    (⟨.notice, 323, false, 2⟩ : LoadCtx).table = .notice ∧ (⟨.notice, 323, false, 2⟩ : LoadCtx).next = (323 : Fin 324).val := by
  refine ⟨rfl, rfl, rfl, rfl, ⟨_, rfl⟩, ?_, by decide, rfl, rfl⟩
  rfl

theorem test_witness_LoadEntriesWriteOneEntry_device :
    (⟨.device, 0, true, 1⟩ : LoadCtx).table = .device ∧
      decodeDevice [0x7F, 0, 1, 2, 3, 0x01, 0xE0, 50] = .ok ⟨0x7F00, .r38400, .r115200, .r250000, 480, 50⟩ := ⟨rfl, rfl⟩

/-- Entries for the writes: the detector in zone 2, the room's zone with a lower blind maximum, the work with another id, the
spotlight with a lower max level. -/
theorem test_witness_PointWritesStartThePointAfresh :
    decodePoint (encodePoint (some (.pres { detector with zone := 2 }))) = .ok (some (.pres { detector with zone := 2 })) ∧
    decodePoint (encodePoint none) = .ok none ∧ namesZone room.tables.points[(40 : Fin 64)] 1 ∧
    (room.points[(4 : Fin 64)] = .meas lightValid ∧ lightValid.state = .valid) ∧
    (let d : PresDyn := { detectorOn with state := .stuck }; (watched d).points[(40 : Fin 64)] = .pres d ∧ d.state = .stuck) ∧
    (let s := room.setZone 1 { ZoneDyn.unused with present := false };
      s.tables.zones[(1 : Fin 16)] ≠ none ∧ s.zones[(1 : Fin 16)].present = false ∧ ¬ othersIn s 1 40) := by
  refine ⟨rfl, rfl, ⟨detector, by decide +kernel, rfl⟩, by decide +kernel, by decide +kernel, by decide +kernel,
    by decide +kernel, ?_⟩
  rintro ⟨q, hq, x, hx, -⟩
  by_cases h : q = 4
  · subst h
    exact nomatch (show some (PointRec.meas lightPoint) = some (.pres x) from hx)
  · have h4 : ¬ 4 = q.val := fun e => h (Fin.ext e.symm)
    have h40 : ¬ 40 = q.val := fun e => hq (Fin.ext e.symm)
    simp [State.setZone, room, factoryTables, h4, h40] at hx

theorem test_witness_ZoneWritesKeepOrSettleTheZone :
    decodeZone (encodeZone (some { roomZone with blindMax := 100 })) = .ok (some { roomZone with blindMax := 100 }) ∧
    decodeZone (encodeZone none) = .ok none ∧ room.tables.zones[(1 : Fin 16)] = some roomZone ∧
    room.tables.zones[(2 : Fin 16)] = none ∧ namesZone room.tables.points[(40 : Fin 64)] 1 :=
  ⟨rfl, rfl, by decide +kernel, by decide +kernel, detector, by decide +kernel, rfl⟩

theorem test_witness_ObjectWritesStartKeepOrEndTheAccount :
    decodeObject (encodeObject (some { work with id := 78 })) = .ok (some { work with id := 78 }) ∧
    decodeObject (encodeObject none) = .ok none ∧ room.tables.objects[(9 : Fin 128)] = some work ∧
    room.tables.objects[(0 : Fin 128)] = none ∧ ObjectLinksFit room.tables work := by
  refine ⟨rfl, rfl, by decide +kernel, by decide +kernel, fun x h => ?_, fun u hu x h => ?_, fun a ha x h => ?_⟩
  · cases (show some (PointRec.meas lightPoint) = some x from h)
    exact ⟨_, rfl, rfl⟩
  · cases hu
    exact nomatch (show (none : Option PointRec) = some x from h)
  · cases ha
    cases (show some spot = some x from h)
    rfl

theorem test_witness_ActuatorWritesKeepOrClearTheActuator :
    (let r : ActRec := { spot with kind := .spot 9 2048 512 500 20 };
      decodeActuator (encodeActuator (some r)) = .ok (some r) ∧ keepsIdentity room.tables.actuators[(12 : Fin 64)] (some r) ∧
        spotFields (some r) = some (9, 500, 1)) ∧
    decodeActuator (encodeActuator none) = .ok none ∧
    (let s := (room.setMark 30 true);
      s.marks[(30 : Fin 64)] = true ∧ (s.port humidifier.port.line).queue = [] ∧ effectiveLevel s 30 humidifier = some 5000 ∧
        humidifier.kind.isLight = false) ∧
    room.marks[(12 : Fin 64)] = false ∧ effectiveLevel room 31 humidifier = none :=
  ⟨⟨rfl, ⟨spot, _, by decide +kernel, rfl, by decide +kernel, rfl, rfl⟩, by decide +kernel⟩, rfl, by decide +kernel,
    by decide +kernel, by decide +kernel⟩

theorem test_witness_EntriesAreAcceptedByTheirRules :
    (22 < TableName.schedule.size ∧ ([1, 0] : List Byte).length < entryLength .schedule 22 ∧
      entryLength .schedule 22 ≤ ([1, 0, 0] : List Byte).length) ∧
    DeviceFits ⟨0x7F00, .r38400, .r38400, .r38400, 60, 100⟩ ∧
    PointFits (.meas lightPoint) ∧ PointFits (.pres detector) ∧ ActuatorFits spot ∧ ActuatorFits blind ∧
    ZoneFits roomZone ∧ WeekFits ⟨0, 0⟩ ∧ WeekFits ⟨600, 1440⟩ ∧ 65535 ≤ 65535 ∧
    ([0, 9] : List Byte).getD 0 0 = 0 ∧ (([2, 9] : List Byte).getD 0 0).getLsbD 0 = false ∧
    ([0, 0, 0, 0, 7] : List Byte).take 4 = [0, 0, 0, 0] := by
  unfold DeviceFits PointFits MeasFits StaleLimitFits ZoneFits WeekFits
  refine ⟨by decide, by decide, by decide +kernel, by decide, ⟨⟨by decide, by decide, by decide⟩, fun f h => nomatch h⟩,
    ⟨show 1 ≤ 1000 ∧ 1000 ≤ 1000 ∧ 1 ≤ 50 ∧ 50 ≤ 100 by decide, fun f h => ?_⟩, by decide, by decide, by decide, by decide, by decide, by decide, by decide⟩
  cases h
  decide

theorem test_witness_EntriesAreAcceptedByTheirRules_class : ClassFits room.tables (anyNode .sample .anyG (.toPoint 4)) := by
  refine ⟨by decide, by decide, by decide, by decide, ⟨fun h => (nomatch h), fun h => (nomatch h.1)⟩,
    fun p hp => ?_, fun a h => (nomatch h)⟩
  cases hp
  refine ⟨by decide, .inl ⟨rfl, fun x h => ?_⟩⟩
  cases (show some (PointRec.meas lightPoint) = some x from h)
  exact ⟨_, rfl⟩

theorem test_witness_EntriesAreAcceptedByTheirRules_object : ObjectFits room.tables work := by
  refine ⟨by decide, fun u h => ?_, by decide, by decide, by decide, by decide, by decide, by decide, by decide, by decide,
    test_witness_ObjectWritesStartKeepOrEndTheAccount.2.2.2.2⟩
  cases h
  decide

/-- Excess, quiet and neither in zone 1, with its light point VALID at 120 lux and its spotlight spent; and DARK. -/
theorem test_witness_MinutesStepBlinds :
    ((lastSecond 700).resetting = none ∧ (lastSecond 700).clock.second = 59 ∧ (lastSecond 700).clock.minute < 1439 ∧
      (lastSecond 700).tables.zones[(1 : Fin 16)] = some roomZone ∧ (lastSecond 700).tables.zones[(2 : Fin 16)] = none ∧
      (lastSecond 700).overrides[(1 : Fin 16)] = []) ∧
    lightMode (overridden [⟨.dark 0, 1, none⟩]) 1 = .dark ∧ lightMode room 1 = .open ∧
    excessAt (room.setLoop 12 ⟨0, none, true⟩) 1 ∧ quietAt calm 1 20 ∧ measures room 4 120 ∧ ¬ (120 : Int) ≤ max 0 ((50 : Nat) - 20) ∧
    (roomZone.reopenHold ≤ 2 + 1 ∧ 1 + 1 < roomZone.reopenHold) := by
  have m : measures room 4 120 :=
    ⟨lightPoint, lightValid, 30720, by decide +kernel, rfl, by decide +kernel, rfl, rfl, by decide +kernel⟩
  refine ⟨by decide +kernel, by decide +kernel, by decide +kernel, ⟨9, work, by decide +kernel, rfl, .inr ⟨120, m, by decide +kernel, ?_⟩⟩,
    fun i o h => ?_, m, by decide, by decide⟩
  · intro a ha _
    cases ha
    decide +kernel
  · simp [calm, State.reset, factoryTables] at h

theorem test_witness_RequestsAreRefusedWithoutEffect :
    (serving saveWaits ∧ saveWaits.save ≠ none) ∧ (serving room ∧ room.save = none) ∧
    ([0x10, 0] : List Byte).length < 3 ∧ requestCodes.contains 0x77 = false ∧
    ((Request.mk 0 7 [3]).params.head? = some 3 ∧ (3 : Byte) ≠ 1 ∧ (3 : Byte) ≠ 2) ∧ State.reset.resetting ≠ none ∧
    requestCommand 0x60 ⟨0, 7, [2]⟩ = some (.resetHard 0 7) := by
  unfold serving
  decide +kernel

theorem test_witness_NoticesJoinAndAreCollected :
    (room.tables.notices[(323 : Fin 324)].enter = true ∧ room.tables.notices[(323 : Fin 324)].exit = false ∧
      ∀ x, ((323 : Fin 324), x) ∉ room.noticed) ∧
    (∃ x, ((3 : Fin 324), x) ∈ ({ room with noticed := [(3, .enter)] } : State).noticed) ∧
    PendingSound { room with noticed := [(3, .enter), (73, .exit)] } ∧ serving room := by
  unfold PendingSound serving
  exact ⟨⟨by decide +kernel, by decide +kernel, fun x => by simp [room, calm, State.reset]⟩,
    ⟨.enter, by simp⟩, by decide +kernel, rfl⟩

theorem test_witness_SavesStartAndEnd :
    (serving room ∧ room.save = none ∧ room.store.write = .none) ∧
    checkpoints.store.write ≠ .none ∧
    (let s := { room with save := some ⟨0x7F00, 1, 2⟩, store := { Store.blank with saveWaiting := true } };
      s.store.write = .none ∧ s.store.saveWaiting = true) ∧
    ((∀ copy, room.store.write ≠ .save copy)) ∧
    ((saves true).store.write = .save room.tables ∧ (saves true).save = some ⟨0x7F00, 1, 2⟩ ∧ (saves true).resetting = none ∧
      (saves true).store.saveWaiting = false ∧ (saves true).store.due = true) := by
  unfold serving
  exact ⟨⟨rfl, rfl, rfl⟩, fun h => WriteOp.noConfusion h, ⟨rfl, rfl⟩, fun _ h => WriteOp.noConfusion h, ⟨rfl, rfl, rfl, rfl, rfl⟩⟩

theorem test_witness_CheckpointsKeepTheNewestRecord :
    (let s := { room with store := { Store.blank with due := true } };
      s.store.write = .none ∧ s.store.saveWaiting = false ∧ s.store.due = true) ∧
    (∀ copy, room.store.write ≠ .checkpoint copy) ∧
    (checkpoints.store.write = .checkpoint (ckptCopy room) ∧ checkpoints.resetting = none ∧
      checkpoints.store.slots[(9 : Fin 128)].newest = some ⟨1, ⟨77, 0, 0, 0, 0, 0, false, false⟩⟩) ∧
    (∀ i : Fin 128, room.store.slots[i] = ⟨none, none⟩) ∧
    (∀ (i : Fin 128) (c : Ckpt),
      checkpoints.store.slots[i].slot0 = some c ∨ checkpoints.store.slots[i].slot1 = some c → c.generation.toNat ≤ 1) := by
  refine ⟨⟨rfl, rfl, rfl⟩, fun _ h => WriteOp.noConfusion h, ⟨rfl, rfl, by decide +kernel⟩, ?_, ?_⟩
  · intro i
    simp [room, calm, State.reset, Store.blank]
  · rintro ⟨i, hi⟩ c h
    by_cases h9 : 9 = i
    · subst h9
      have h : some (⟨1, ⟨77, 0, 0, 0, 0, 0, false, false⟩⟩ : Ckpt) = some c ∨ (none : Option Ckpt) = some c := h
      rcases h with h | h
      · cases h
        decide
      · cases h
    · simp [checkpoints, Store.blank, h9] at h

/-- The ends of an object without a good record, in a write whose record 0 reads back different. -/
theorem test_witness_CheckpointsKeepTheNewestRecord_bad :
    (0 : Fin 128) ∈ [(0 : Fin 128)] ∧ checkpoints.store.slots[(0 : Fin 128)] = ⟨none, none⟩ := by decide +kernel

theorem test_witness_CheckpointsKeepTheNewestRecord_due :
    (∀ minute ∈ [698, 699, 1439],
      (lastSecond minute).resetting = none ∧ (lastSecond minute).clock.second = 59 ∧ (lastSecond minute).store.write = .none ∧
        (lastSecond minute).store.saveWaiting = false ∧ (lastSecond minute).clock.unset = false) ∧
    ((lastSecond 699).clock.minute < 1439 ∧ (699 + 1) % 10 = 0 ∧ (698 + 1) % 10 ≠ 0 ∧ 1439 ≤ (lastSecond 1439).clock.minute) ∧
    ({ lastSecond 1439 with clock := ⟨0, 0, 1439, 59, true⟩ } : State).clock.unset = true ∧
    (let s := { lastSecond 699 with store := checkpoints.store };
      s.resetting = none ∧ s.clock.second = 59 ∧ s.store.write ≠ .none) ∧
    (let s := { lastSecond 699 with store := { Store.blank with saveWaiting := true } };
      s.resetting = none ∧ s.clock.second = 59 ∧ s.store.saveWaiting = true) ∧
    LuxOfMinute (lastSecond 1439) work 120 false ∧
    (serving (lastSecond 700) ∧ (lastSecond 700).clock.day < (clockOf timeRequest.params).day) ∧
    (clockOf timeRequest.params).day ≤ ({ lastSecond 700 with clock := ⟨3127, 2, 700, 59, false⟩ } : State).clock.day :=
  ⟨by simp [lastSecond, room, calm, State.reset, Store.blank], by decide, rfl, ⟨rfl, rfl, fun h => WriteOp.noConfusion h⟩,
    ⟨rfl, rfl, rfl⟩,
    .inl ⟨30720, ⟨⟨lightPoint, by decide +kernel, by decide⟩, lightValid, by decide +kernel, by decide, by decide⟩,
      by decide +kernel, rfl⟩,
    ⟨rfl, by decide +kernel⟩, by decide +kernel⟩

theorem test_witness_ResetsBeginAndComplete_requests :
    (serving room ∧ room.save = none ∧ room.store.write = .none ∧ room.store.due = false) ∧
    (serving checkpoints ∧ checkpoints.save = none ∧ checkpoints.store.write ≠ .none) ∧
    (let s := { room with store := { Store.blank with due := true } };
      s.store.write = .none ∧ s.store.due = true) :=
  ⟨⟨rfl, rfl, rfl, rfl⟩, ⟨rfl, rfl, fun h => WriteOp.noConfusion h⟩, rfl, rfl⟩

theorem test_witness_ReloadsTakeTheImage :
    (serving kept ∧ kept.save = none ∧ kept.store.write = .none ∧ kept.store.due = false ∧
      kept.tables.objects[(9 : Fin 128)] = some work) ∧
    (let s := { checkpoints with resetting := some .hardCheckpoint };
      s.resetting = some .hardCheckpoint ∧ s.held = [] ∧ s.store.write = .checkpoint (ckptCopy room)) ∧
    (saves false).store.write = .save room.tables ∧
    checkpoints.store.slots[(9 : Fin 128)].newest = some ⟨1, ⟨77, 0, 0, 0, 0, 0, false, false⟩⟩ ∧
    kept.store.slots[(9 : Fin 128)].newest = none :=
  ⟨⟨rfl, rfl, rfl, rfl, by decide +kernel⟩, ⟨rfl, rfl, rfl⟩, rfl, by decide +kernel, by decide +kernel⟩

theorem test_witness_ReloadsTakeTheImage_ends_and_stops :
    (let s := { checkpoints with resetting := some .hardCheckpoint, held := [.exposureMinute] };
      s.resetting = some .hardCheckpoint ∧ s.store.write = .checkpoint (ckptCopy room)) ∧
    (let s := { checkpoints with resetting := some .softWait, held := [.zoneMinute] };
      s.resetting = some .softWait ∧ s.store.write = .checkpoint (ckptCopy room) ∧ s.store.due = false) ∧
    (∀ copy, room.store.write ≠ .checkpoint copy) ∧
    ((9 : Fin 128) ∈ [(9 : Fin 128)] ∧ (8 : Fin 128) ∉ [(9 : Fin 128)] ∧ (8 : Fin 128) ∈ [(8 : Fin 128)] ∧
      (7 : Fin 128) ∉ [(8 : Fin 128)] ∧ (7 : Fin 128) ∉ [(9 : Fin 128)] ∧ checkpoints.store.slots[(8 : Fin 128)] = ⟨none, none⟩) :=
  ⟨⟨rfl, rfl⟩, ⟨rfl, rfl, rfl⟩, fun _ h => WriteOp.noConfusion h, by decide +kernel⟩

/-- An image in which the work has another id. -/
theorem test_witness_ReloadsTakeTheImage_other_id :
    (let s := { room with store := { Store.blank with image := ⟨{ room.tables with
        objects := factoryTables.objects.set 9 (some { work with id := 78 }) }, 0⟩ } };
      serving s ∧ s.save = none ∧ s.store.write = .none ∧ s.store.due = false ∧ s.tables.objects[(9 : Fin 128)] = some work ∧
        s.store.image.tables.objects[(9 : Fin 128)] = some { work with id := 78 } ∧ (78 : Quad) ≠ 0 ∧ (78 : Quad) ≠ work.id) :=
  ⟨rfl, rfl, rfl, rfl, by decide +kernel, by decide +kernel, by decide, by decide⟩

theorem test_witness_HardResetsGiveTheAccountsBack :
    serving kept ∧ kept.save = none ∧ kept.store.write = .none ∧
    (∀ (i : Fin 128) (c : Ckpt), kept.store.slots[i].slot0 = some c ∨ kept.store.slots[i].slot1 = some c →
      c.generation.toNat < 2147483646) ∧
    kept.tables.objects[(9 : Fin 128)] = some work :=
  ⟨rfl, rfl, rfl, fun i c h => by simp [kept, Store.blank] at h, by decide +kernel⟩

theorem test_witness_ResetsBeginAndComplete :
    (∀ k, room.resetting ≠ some (.reloaded k)) ∧ State.reset.resetting = some (.reloaded .powerOn) ∧
    State.reset.tables.notices[(323 : Fin 324)].enter = true ∧
    ((sourceClockUnset, .enter) ∈ State.reset.deferred ∧
      State.reset.tables.notices[sourceClockUnset].enables .enter = true) ∧
    ({ State.reset with deferred := [] } : State).deferred = [] :=
  ⟨fun _ h => by simp [room, calm] at h, rfl, by decide +kernel, ⟨by simp [State.reset], by decide +kernel⟩, rfl⟩

/-- R184: a hard reset behind a checkpoint in progress makes checkpoint due yes; its own checkpoint makes it no (R187). -/
theorem test_hard_reset_makes_a_checkpoint_due :
    checkpoints.beginHard.store.due = true ∧ (checkpoints.beginHard.endCheckpoint []).store.due = false ∧
    room.beginHard.store.due = false := ⟨rfl, rfl, rfl⟩

theorem test_witness_ResetsBeginAndComplete_ends :
    (let s := { checkpoints with resetting := some .hardWait };
      s.store.write = .checkpoint (ckptCopy room) ∧ s.resetting = some .hardWait) ∧
    (let s := { checkpoints with resetting := some .softWait, store := { checkpoints.store with due := true } };
      s.store.write = .checkpoint (ckptCopy room) ∧ s.resetting = some .softWait ∧ s.store.due = true) :=
  ⟨⟨rfl, rfl⟩, rfl, rfl, rfl⟩

theorem test_witness_EntriesDecodeFromTheirEncodings :
    (⟨0x7F00, .r38400, .r115200, .r250000, 1440, 100⟩ : DeviceEntry).valid = true ∧
    ((anyNode .sample .anyG (.toPoint 4)).valid = true ∧ (anyNode .sample .anyG (.toPoint 4)).mask.length = 8) ∧
    lightPoint.valid = true ∧ detector.valid = true ∧
    (spot.kind = .spot 9 2048 512 800 20 ∧ 2048 ≤ 65535 ∧ 512 ≤ 65535 ∧ 1 ≤ 800 ∧ 800 ≤ 1000 ∧ 1 ≤ 20 ∧ 20 ≤ 100 ∧
      ∀ f, spot.feedback ≠ some f) ∧
    (blind.feedback = some ⟨10, 30⟩ ∧ 10 ≤ 100 ∧ 5 ≤ 30 ∧ 30 ≤ 600) ∧
    (work.valid = true ∧ work.id ≠ 0) ∧ roomZone.valid = true ∧ (⟨600, 1440⟩ : WeekEntry).valid = true ∧ 65535 ≤ 65535 := by
  refine ⟨by decide +kernel, by decide +kernel, by decide +kernel, by decide +kernel,
    ⟨rfl, by decide, by decide, by decide, by decide, by decide, by decide, fun f h => by simp [spot] at h⟩,
    by decide +kernel, by decide +kernel, by decide +kernel, by decide +kernel, by decide⟩

theorem test_witness_WrittenEntriesReadBack :
    (∃ t, room.writeEntry .device 0 [0x7F, 0, 1, 1, 1, 0x01, 0xE0, 50] = .ok t) ∧
    (∃ t, room.writeEntry .notice 323 [3] = .ok t) ∧ ∃ t, room.writeEntry .actuator 63 (List.replicate 20 0) = .ok t :=
  ⟨⟨_, rfl⟩, ⟨_, rfl⟩, ⟨_, rfl⟩⟩

/-- The room with a command waiting, a frame queued and an override in force. -/
def busy : State := { overridden [⟨.dark 700, 9, some 1⟩] with
  ports := ⟨{ freePort with queue := [.relayed [0x7E]], tx := some 0 }, freePort, { freePort with queue := [.governor 20 0 0 1] }⟩
  loops := room.loops.set 12 ⟨0, none, true⟩
  noticed := [(3, .enter), (73, .exit)]
  pending := [.lineSilence .b] }

theorem test_witness_step : ∃ t, step busy = .next t := ⟨_, rfl⟩

theorem test_witness_StepsKeepTheQueuesSound : QueuesSound busy := by
  unfold QueuesSound PortSound
  decide +kernel

theorem test_witness_StepsKeepTheQueuesSound_owed :
    OwedSound { busy with owed := some .g2, pending := [.sendPendingService .g2] } := fun g h => by
  cases h
  rfl

theorem test_witness_StepsKeepTheClockAndThePendingSetSound : ClockSound busy ∧ PendingSound busy := by
  unfold ClockSound PendingSound
  decide +kernel

theorem test_witness_StepsKeepTheStacksAndBlindsSound_stacks : StacksSound busy := by
  rintro ⟨z, hz⟩
  by_cases h : 1 = z
  · subst h
    simp [busy, overridden, EntrySound]
  · simp [busy, overridden, room, calm, State.reset, h]

theorem test_witness_StepsKeepTheStacksAndBlindsSound : BlindsSound busy := by
  have f : BlindLimits factoryTables := fun z r h => by simp [factoryTables] at h
  have zone : ∀ (z : Fin 16) (r : ZoneRec), busy.tables.zones[z] = some r → r = roomZone := by
    rintro ⟨z, hz⟩ r h
    by_cases h1 : 1 = z
    · simp [busy, overridden, room, h1] at h
      exact h.symm
    · simp [busy, overridden, room, factoryTables, h1] at h
  have cap : ∀ z : Fin 16, busy.blinds[z] = ⟨0, 0⟩ := fun z => by simp [busy, overridden, room, calm, State.reset]
  refine ⟨fun z r h => ?_, f, fun copy h => WriteOp.noConfusion h, fun z => ⟨fun _ => cap z, fun r _ => ?_⟩⟩
  · rw [zone z r h]
    decide
  · rw [cap z]
    simp

theorem test_witness_StepsKeepTheLoopsSound : LoopsSound busy := by
  rintro ⟨a, ha⟩
  have u : busy.loops[a].u = 0 := by
    by_cases h : 12 = a <;> simp [busy, overridden, room, calm, State.reset, LoopCtx.unused, h]
  unfold LoopSound
  split <;> simp [u]

theorem test_witness_StepsKeepTheWritePathSound : StoreSound saveWaits := by
  unfold StoreSound
  exact ⟨rfl, fun h => WriteOp.noConfusion h, fun h => Bool.noConfusion h, fun h => Bool.noConfusion h⟩

theorem test_witness_tables : AllTablesSound busy := by
  have f : TablesSound factoryTables := ⟨fun p r h => by simp [factoryTables] at h, fun i r h => by simp [factoryTables] at h⟩
  refine ⟨⟨?_, ?_⟩, f, fun copy h => WriteOp.noConfusion h⟩
  · rintro ⟨p, hp⟩ r h
    by_cases h1 : 40 = p
    · simp [busy, overridden, room, h1] at h
    · by_cases h2 : 4 = p
      · simp [busy, overridden, room, h1, h2] at h
        simp [← h, lightPoint]
      · simp [busy, overridden, room, factoryTables, h1, h2] at h
  · rintro ⟨i, hi⟩ r h
    by_cases h1 : 9 = i
    · simp [busy, overridden, room, h1] at h
      simp [← h, work]
    · simp [busy, overridden, room, factoryTables, h1] at h

theorem test_witness_StepsKeepThePointsSound : PointsSound busy := by
  refine ⟨test_witness_tables, ?_⟩
  rintro ⟨p, hp⟩
  by_cases h1 : 40 = p
  · subst h1
    trivial
  · by_cases h2 : 4 = p
    · subst h2
      show PointSound (some (.meas lightPoint)) (.meas lightValid)
      simp [PointSound, lightValid, lightPoint]
    · simp [busy, overridden, room, calm, State.reset, factoryTables, PointSound, h1, h2]

theorem test_witness_StepsKeepUnusedRecordsEmpty : ZonesSound busy ∧ ActuatorsSound busy ∧ AccountsSound busy := by
  refine ⟨?_, ?_, test_witness_tables, ?_⟩
  · rintro ⟨z, hz⟩ h
    by_cases h1 : 1 = z
    · simp [busy, overridden, room, h1] at h
    · simp [busy, overridden, room, calm, State.reset]
  · rintro ⟨a, ha⟩
    by_cases h1 : 30 = a
    · subst h1
      show ActuatorSound (some humidifier) ⟨some 5000, some 5000, none, .normal, none⟩
      simp [ActuatorSound, humidifier]
    · by_cases h2 : 20 = a
      · subst h2
        show ActuatorSound (some blind) .unused
        simp [ActuatorSound, blind, ActDyn.unused]
      · by_cases h3 : 12 = a
        · subst h3
          show ActuatorSound (some spot) ⟨some 400, some 380, none, .normal, none⟩
          simp [ActuatorSound, spot]
        · simp [busy, overridden, room, calm, State.reset, factoryTables, ActuatorSound, ActDyn.unused,
            h1, h2, h3]
  · rintro ⟨i, hi⟩
    by_cases h1 : 9 = i
    · subst h1
      exact ⟨fun h => (nomatch (show some work = none from h)), fun _ h => (nomatch (show ObjState.pacing = .unused from h))⟩
    · simp [busy, overridden, room, calm, State.reset, factoryTables, h1]

end Sys2Proof.Tests
end

section
/-! The three queues: what a port keeps when frames join, leave or change in its queue (R6, R10, R11). -/

namespace Sys2Proof.Safety

open Sys2Proof.Machine

/-- The three ports by name. -/
theorem queuesSound_iff (s : State) : QueuesSound s ↔ ∀ p, PortSound p (s.port p) :=
  ⟨fun ⟨hb, h1, h2⟩ p => by cases p <;> assumption, fun h => ⟨h .b, h .g1, h .g2⟩⟩

theorem QueuesSound.port {s : State} (h : QueuesSound s) (p : Port) : PortSound p (s.port p) := (queuesSound_iff s).1 h p

theorem QueuesSound.setPort {s : State} (h : QueuesSound s) {p : Port} {q : PortState} (hq : PortSound p q) :
    QueuesSound (s.setPort p q) := by
  rw [queuesSound_iff]
  intro p'
  by_cases hp : p' = p
  · subst hp
    rwa [State.port_setPort]
  · rw [State.port_setPort_ne s hp]
    exact h.port p'

/-- Only queue and transmission matter to R6. -/
theorem PortSound.congr {p : Port} {q q' : PortState} (h : PortSound p q) (hqueue : q'.queue = q.queue) (htx : q'.tx = q.tx) :
    PortSound p q' := by
  unfold PortSound
  rwa [hqueue, htx]

/-- With nothing in transmission the queue may be anything within R6. -/
theorem PortSound.idle {p : Port} {q : PortState} (hlen : q.queue.length ≤ capacity p)
    (hclass : q.queue.all (classAllowed p) = true) (hone : ∀ a : Fin 64, (q.queue.filter (·.isGovernor a)).length ≤ 1)
    (htx : q.tx = none) : PortSound p q :=
  ⟨hlen, hclass, hone, by simp [htx]⟩

theorem portSound_afterReset (p : Port) (rate : LineRate) : PortSound p (.afterReset rate) :=
  .idle (Nat.zero_le _) rfl (fun _ => Nat.zero_le _) rfl

/-- An entry that joins at the end of a queue with room. -/
theorem PortSound.append {p : Port} {q : PortState} {e : QEntry} (h : PortSound p q) (hroom : q.queue.length < capacity p)
    (hclass : classAllowed p e = true) (hnew : ∀ a, e.isGovernor a = true → ∀ x ∈ q.queue, x.isGovernor a = false) :
    PortSound p { q with queue := q.queue ++ [e] } := by
  obtain ⟨-, hall, hone, -⟩ := h
  refine ⟨?_, by simp [hall, hclass], fun a => ?_, fun _ => by simp⟩
  · simp only [List.length_append, List.length_singleton]
    exact hroom
  cases he : e.isGovernor a with
  | false => simpa [List.filter_append, he] using hone a
  | true =>
    have hnone : q.queue.filter (·.isGovernor a) = [] := List.filter_eq_nil_iff.2 (fun x hx => by simp [hnew a he x hx])
    simp [List.filter_append, he, hnone]

/-- R10: a frame that is no governor command joins a queue with room or is dropped. -/
theorem PortSound.joined {p : Port} {q : PortState} {e : QEntry} (h : PortSound p q) (hclass : classAllowed p e = true)
    (hgov : ∀ a, e.isGovernor a = false) : PortSound p (joined (capacity p) e q) := by
  unfold Safety.joined
  split
  · exact h.append ‹_› hclass (fun a ha => by simp [hgov a] at ha)
  · exact h

/-- The head and the waiting entries are the queue. -/
theorem sending_append_waiting (q : PortState) : q.sending ++ q.waiting = q.queue := by
  unfold PortState.sending PortState.waiting
  split
  · exact List.take_append_drop 1 q.queue
  · rfl

@[simp] theorem withLevel_governor (a b : Fin 64) (v level : Int) (node : Word) (channel : Byte) :
    (QEntry.governor b node channel level).withLevel a v = .governor b node channel (if b = a then v else level) := by
  by_cases h : b = a <;> simp [QEntry.withLevel, h]

@[simp] theorem isGovernor_withLevel (a b : Fin 64) (v : Int) (e : QEntry) : (e.withLevel a v).isGovernor b = e.isGovernor b := by
  cases e with
  | governor c node channel level => rw [withLevel_governor]; rfl
  | relayed f => rfl
  | reply f => rfl
  | notice f => rfl

@[simp] theorem classAllowed_withLevel (p : Port) (a : Fin 64) (v : Int) (e : QEntry) :
    classAllowed p (e.withLevel a v) = classAllowed p e := by
  cases e with
  | governor c node channel level => rw [withLevel_governor]; cases p <;> rfl
  | relayed f => rfl
  | reply f => rfl
  | notice f => rfl

/-- R11, first case: another level in a waiting entry. -/
theorem PortSound.replaceLevel {p : Port} {q : PortState} (h : PortSound p q) (a : Fin 64) (v : Int) :
    PortSound p { q with queue := q.sending ++ q.waiting.map (·.withLevel a v) } := by
  obtain ⟨hlen, hall, hone, htx⟩ := h
  rw [← sending_append_waiting q] at hlen hall hone htx
  have hfilter : ∀ b : Fin 64, ((q.waiting.map (·.withLevel a v)).filter (·.isGovernor b)).length =
      (q.waiting.filter (·.isGovernor b)).length := by
    intro b
    simp [List.filter_map, Function.comp_def]
  refine ⟨by simpa using hlen, by simpa [Function.comp_def] using hall, fun b => ?_, by simpa using htx⟩
  simpa [List.filter_append, hfilter b] using hone b

/-- R11, fourth case: the oldest waiting RELAYED entry makes room for a governor command. -/
theorem PortSound.displace {p : Port} {q : PortState} {e : QEntry} (h : PortSound p q)
    (hrelayed : q.waiting.any (·.isRelayed) = true) (hclass : classAllowed p e = true)
    (hnew : ∀ a, e.isGovernor a = true → ∀ x ∈ q.queue, x.isGovernor a = false) :
    PortSound p { q with queue := q.sending ++ q.waiting.eraseP (·.isRelayed) ++ [e] } := by
  obtain ⟨hlen, hall, hone, -⟩ := h
  obtain ⟨x, hx, hxr⟩ := List.any_eq_true.1 hrelayed
  have hlength := List.length_eraseP_of_mem (p := (·.isRelayed)) hx hxr
  have hpos := List.length_pos_of_mem hx
  have hsub : List.Sublist (q.sending ++ q.waiting.eraseP (·.isRelayed)) q.queue := by
    conv => rhs; rw [← sending_append_waiting q]
    exact (List.Sublist.refl _).append List.eraseP_sublist
  have hshorter : (q.sending ++ q.waiting.eraseP (·.isRelayed)).length < capacity p := by
    rw [← sending_append_waiting q, List.length_append] at hlen
    rw [List.length_append]
    omega
  have hbase : PortSound p { q with queue := q.sending ++ q.waiting.eraseP (·.isRelayed), tx := none } :=
    .idle (Nat.le_of_lt hshorter) (List.all_eq_true.2 fun y hy => List.all_eq_true.1 hall y (hsub.subset hy))
      (fun a => Nat.le_trans (hsub.filter _).length_le (hone a)) rfl
  obtain ⟨h1, h2, h3, -⟩ := hbase.append hshorter hclass (fun a ha y hy => hnew a ha y (hsub.subset hy))
  exact ⟨h1, h2, h3, fun _ => by simp⟩

/-- The head leaves. -/
theorem PortSound.ended {p : Port} {q : PortState} (h : PortSound p q) : PortSound p q.ended := by
  obtain ⟨hlen, hall, hone, -⟩ := h
  have hsub : List.Sublist (q.queue.drop 1) q.queue := List.drop_sublist 1 _
  exact .idle (Nat.le_trans hsub.length_le hlen) (List.all_eq_true.2 fun y hy => List.all_eq_true.1 hall y (hsub.subset hy))
    (fun a => Nat.le_trans (hsub.filter _).length_le (hone a)) rfl

/-- Bytes of a head that is in transmission. -/
theorem PortSound.sendingHead {p : Port} {q : PortState} (h : PortSound p q) (hne : q.queue ≠ []) (n : Option Nat) (quiet : Bool) :
    PortSound p { q with tx := n, quiet } := by
  obtain ⟨hlen, hall, hone, -⟩ := h
  exact ⟨hlen, hall, hone, fun _ => hne⟩

end Sys2Proof.Safety
end

section
/-! What every operation keeps of the three queues and of an owed service (R6, R12). -/

namespace Sys2Proof.Safety

open Sys2Proof.Machine

/-- From `s` to `t` the queues stay within R6, and a service stays owed to the next command alone. -/
structure KeepsQueues (s t : State) : Prop where
  queues : QueuesSound s → QueuesSound t
  owed : OwedSound s → OwedSound t

theorem keepsQueues_chains : Chains KeepsQueues where
  refl _ := ⟨id, id⟩
  trans h k := ⟨k.queues ∘ h.queues, k.owed ∘ h.owed⟩
  free _ _ := ⟨id, id⟩

theorem KeepsQueues.refl (s : State) : KeepsQueues s s := keepsQueues_chains.refl s

theorem KeepsQueues.trans {s t u : State} (h : KeepsQueues s t) (k : KeepsQueues t u) : KeepsQueues s u :=
  keepsQueues_chains.trans h k

/-- What touches neither ports nor owed service nor commands. -/
theorem KeepsQueues.of_eq {s t : State} (hports : t.ports = s.ports) (howed : t.owed = s.owed) (hpending : t.pending = s.pending) :
    KeepsQueues s t := by
  constructor
  · unfold QueuesSound
    rw [hports]
    exact id
  · unfold OwedSound
    rw [howed, hpending]
    exact id

/-- The same after an update that touches neither. -/
theorem KeepsQueues.from_eq {s t u : State} (h : KeepsQueues t u) (hports : t.ports = s.ports) (howed : t.owed = s.owed)
    (hpending : t.pending = s.pending) : KeepsQueues s u :=
  (KeepsQueues.of_eq hports howed hpending).trans h

/-- One port replaced by one that keeps R6. -/
theorem setPort_keepsQueues (s : State) (p : Port) (q : PortState) (hq : PortSound p (s.port p) → PortSound p q) :
    KeepsQueues s (s.setPort p q) :=
  ⟨fun h => h.setPort (hq (h.port p)), id⟩

/-! ### Queues and edges -/

theorem offer_keepsQueues (s : State) (p : Port) (e : QEntry) (hclass : classAllowed p e = true)
    (hgov : ∀ a, e.isGovernor a = false) : KeepsQueues s (s.offer p e) := by
  rw [State.offer_eq]
  exact setPort_keepsQueues s p _ (fun h => h.joined hclass hgov)

theorem edge_keepsQueues (s : State) (src : Fin 324) (e : Edge) : KeepsQueues s (s.edge src e) := by
  unfold State.edge
  split
  · exact (offer_keepsQueues _ _ _ rfl (fun _ => rfl)).from_eq rfl rfl rfl
  · exact .refl s

theorem edges_keepsQueues (s : State) (es : List (Fin 324 × Edge)) : KeepsQueues s (s.edges es) := by
  unfold State.edges
  apply keepsQueues_chains.inFreeOrder
  intro s src
  apply keepsQueues_chains.foldl
  intro s e
  exact edge_keepsQueues s e.1 e.2

theorem edgesOrDefer_keepsQueues (s : State) (es : List (Fin 324 × Edge)) : KeepsQueues s (s.edgesOrDefer es) := by
  unfold State.edgesOrDefer
  split
  · exact .of_eq rfl rfl rfl
  · exact edges_keepsQueues s es

theorem relay_keepsQueues (s : State) (p : Port) (frame : List Byte) : KeepsQueues s (s.relay p frame) := by
  cases p with
  | b => exact (offer_keepsQueues _ _ _ rfl (fun _ => rfl)).trans (offer_keepsQueues _ _ _ rfl (fun _ => rfl))
  | g1 => exact offer_keepsQueues _ _ _ rfl (fun _ => rfl)
  | g2 => exact offer_keepsQueues _ _ _ rfl (fun _ => rfl)

/-! ### Governor commands -/

theorem countQueued_keepsQueues (s : State) (a : Fin 64) (r : ActRec) (v : Int) : KeepsQueues s (s.countQueued a r v) := by
  unfold State.countQueued
  dsimp only
  split <;> exact .of_eq rfl rfl rfl

theorem setMark_keepsQueues (s : State) (a : Fin 64) (b : Bool) : KeepsQueues s (s.setMark a b) := .of_eq rfl rfl rfl

/-- An entry for `a` only where none is queued (R11). -/
theorem governor_isNew {q : PortState} {a : Fin 64} (hw : ¬ q.waiting.any (·.isGovernor a) = true)
    (hs : ¬ q.sending.any (·.isGovernor a) = true) (node : Word) (channel : Byte) (v : Int) (b : Fin 64)
    (hb : (QEntry.governor a node channel v).isGovernor b = true) : ∀ x ∈ q.queue, x.isGovernor b = false := by
  have hab : a = b := by simpa [QEntry.isGovernor] using hb
  subst hab
  rw [← sending_append_waiting q]
  intro x hx
  simp only [List.any_eq_true, not_exists, not_and, Bool.not_eq_true] at hw hs
  rcases List.mem_append.1 hx with h | h
  · exact hs x h
  · exact hw x h

theorem classAllowed_governor (g : Gallery) (a : Fin 64) (node : Word) (channel : Byte) (v : Int) :
    classAllowed g.line (.governor a node channel v) = true := by cases g <;> rfl

theorem offerGovernor_keepsQueues (s : State) (a : Fin 64) (r : ActRec) (v : Int) : KeepsQueues s (s.offerGovernor a r v) := by
  unfold State.offerGovernor
  dsimp only
  split
  · exact (setPort_keepsQueues _ _ _ (fun h => h.replaceLevel a v)).trans (countQueued_keepsQueues _ _ _ _)
  · rename_i hw
    split
    · exact setMark_keepsQueues _ _ _
    · rename_i hs
      have hnew := governor_isNew hw hs r.node r.channel v
      have hclass := classAllowed_governor r.port a r.node r.channel v
      split
      · exact ((setPort_keepsQueues _ _ _ (fun h => h.append ‹_› hclass hnew)).trans (setMark_keepsQueues _ _ _)).trans
          (countQueued_keepsQueues _ _ _ _)
      · split
        · exact ((setPort_keepsQueues _ _ _ (fun h => h.displace ‹_› hclass hnew)).trans (setMark_keepsQueues _ _ _)).trans
            (countQueued_keepsQueues _ _ _ _)
        · exact setMark_keepsQueues _ _ _

theorem reevaluate_keepsQueues (s : State) (a : Fin 64) : KeepsQueues s (s.reevaluate a) := by
  unfold State.reevaluate
  split
  · exact .refl s
  · split
    · split
      · exact .refl s
      · split
        · exact offerGovernor_keepsQueues _ _ _ _
        · exact .refl s
    · exact .refl s

theorem reevaluateAll_keepsQueues (s : State) (l : List (Fin 64)) : KeepsQueues s (s.reevaluateAll l) :=
  keepsQueues_chains.foldl reevaluate_keepsQueues l s

theorem serveMark_keepsQueues (s : State) (a : Fin 64) : KeepsQueues s (s.serveMark a) := by
  unfold State.serveMark
  split
  · exact setMark_keepsQueues _ _ _
  · split
    · exact setMark_keepsQueues _ _ _
    · exact (setMark_keepsQueues _ _ _).trans (offerGovernor_keepsQueues _ _ _ _)

theorem serviceMarks_keepsQueues (s : State) (g : Gallery) : KeepsQueues s (s.serviceMarks g) := by
  have hdrop : KeepsQueues s s.dropDeadMarks := by
    unfold State.dropDeadMarks
    exact .of_eq rfl rfl rfl
  unfold State.serviceMarks
  split
  · exact hdrop
  · exact hdrop.trans (serveMark_keepsQueues _ _)

/-- A service that has been dropped or taken is owed no longer. -/
theorem KeepsQueues.owedNone (s : State) : KeepsQueues s { s with owed := none } := ⟨id, fun _ _ h => nomatch h⟩

theorem takeService_keepsQueues (s : State) (g : Gallery) : KeepsQueues s (s.takeService g) := by
  unfold State.takeService
  split
  · exact (KeepsQueues.owedNone s).trans (serviceMarks_keepsQueues _ g)
  · exact .refl s

theorem settled_keepsQueues (s : State) : KeepsQueues s s.settled := by
  unfold State.settled
  split
  · exact .refl s
  · exact takeService_keepsQueues s _

theorem offerLevel_keepsQueues (s : State) (a : Fin 64) (r : ActRec) : KeepsQueues s (s.offerLevel a r) := by
  unfold State.offerLevel
  split
  · exact offerGovernor_keepsQueues _ _ _ _
  · exact .refl s

theorem setActuator_keepsQueues (s : State) (a : Fin 64) (d : ActDyn) : KeepsQueues s (s.setActuator a d) := .of_eq rfl rfl rfl

theorem takeCommand_keepsQueues (s : State) (a : Fin 64) (payload : List Byte) : KeepsQueues s (s.takeCommand a payload) := by
  unfold State.takeCommand
  split
  · exact .refl s
  · split
    · exact .refl s
    · exact (setActuator_keepsQueues _ _ _).trans (offerLevel_keepsQueues _ _ _)

theorem moveActuator_keepsQueues (s : State) (a : Fin 64) (d : ActDyn) : KeepsQueues s (s.moveActuator a d) :=
  (setActuator_keepsQueues _ _ _).trans (edges_keepsQueues _ _)

theorem completionTold_keepsQueues (s : State) (a : Fin 64) : KeepsQueues s (s.completionTold a) := by
  unfold State.completionTold
  split
  · exact .refl s
  · split
    · exact moveActuator_keepsQueues _ _ _
    · exact .refl s

theorem takeFeedback_keepsQueues (s : State) (a : Fin 64) (payload : List Byte) : KeepsQueues s (s.takeFeedback a payload) := by
  unfold State.takeFeedback
  split
  · exact .refl s
  · split
    · exact .refl s
    · split
      · exact .refl s
      · dsimp only
        split
        · split <;> exact moveActuator_keepsQueues _ _ _
        · exact moveActuator_keepsQueues _ _ _

theorem feedbackExpiry_keepsQueues (s : State) (a : Fin 64) : KeepsQueues s (s.feedbackExpiry a) := by
  unfold State.feedbackExpiry
  split
  · exact moveActuator_keepsQueues _ _ _
  · exact .refl s

theorem climateStep_keepsQueues (s : State) (a : Fin 64) : KeepsQueues s (s.climateStep a) := by
  have hflag : KeepsQueues s (s.setFlag a false) := .of_eq rfl rfl rfl
  unfold State.climateStep
  split
  · exact .refl s
  · split
    · exact .refl s
    · dsimp only
      split
      · exact hflag
      · split
        · exact hflag
        · exact hflag.trans (offerLevel_keepsQueues _ _ _)

theorem climateMinute_keepsQueues (s : State) : KeepsQueues s s.climateMinute := by
  unfold State.climateMinute
  generalize List.finRange 64 = l
  exact keepsQueues_chains.foldl climateStep_keepsQueues l s

/-! ### Light governor -/

theorem setLoop_keepsQueues (s : State) (a : Fin 64) (c : LoopCtx) : KeepsQueues s (s.setLoop a c) := .of_eq rfl rfl rfl

theorem setBlind_keepsQueues (s : State) (z : Fin 16) (b : BlindState) : KeepsQueues s (s.setBlind z b) := .of_eq rfl rfl rfl

theorem moveLoop_keepsQueues (s : State) (a : Fin 64) (c : LoopCtx) : KeepsQueues s (s.moveLoop a c) := by
  unfold State.moveLoop
  split
  · exact setLoop_keepsQueues _ _ _
  · exact (setLoop_keepsQueues _ _ _).trans (reevaluate_keepsQueues _ _)

theorem loopSample_keepsQueues (s : State) (m : Int) (a : Fin 64) : KeepsQueues s (s.loopSample m a) := by
  unfold State.loopSample
  split
  · split
    · exact .refl s
    · split
      · exact moveLoop_keepsQueues _ _ _
      · exact setLoop_keepsQueues _ _ _
  all_goals exact .refl s

theorem lightSample_keepsQueues (s : State) (p : Fin 64) (m : Int) : KeepsQueues s (s.lightSample p m) := by
  unfold State.lightSample
  split
  · exact keepsQueues_chains.foldl (fun s a => loopSample_keepsQueues s m a) _ s
  · exact .refl s

theorem lightDeparture_keepsQueues (s : State) (p : Fin 64) : KeepsQueues s (s.lightDeparture p) :=
  keepsQueues_chains.foldl (fun s a => setLoop_keepsQueues s a _) _ s

theorem forceZero_keepsQueues (s : State) (l : List (Fin 64)) : KeepsQueues s (s.forceZero l) :=
  (keepsQueues_chains.foldl (fun s a => setLoop_keepsQueues s a _) l s).trans (reevaluateAll_keepsQueues _ _)

theorem lightModeAtLoops_keepsQueues (s : State) (z : Fin 16) : KeepsQueues s (s.lightModeAtLoops z) := by
  unfold State.lightModeAtLoops
  split
  · exact forceZero_keepsQueues _ _
  · exact .refl s

theorem objectsAtLoops_keepsQueues (s : State) (out : Fin 128 → Bool) : KeepsQueues s (s.objectsAtLoops out) :=
  forceZero_keepsQueues _ _

theorem stepBlind_keepsQueues (s : State) (z : Fin 16) : KeepsQueues s (s.stepBlind z) := by
  unfold State.stepBlind
  split
  · exact .refl s
  · unfold State.moveBlind
    split
    · exact setBlind_keepsQueues _ _ _
    · exact (setBlind_keepsQueues _ _ _).trans (reevaluateAll_keepsQueues _ _)

theorem lightMinute_keepsQueues (s : State) : KeepsQueues s s.lightMinute :=
  keepsQueues_chains.inFreeOrder stepBlind_keepsQueues _ s

/-! ### Exposure unit -/

theorem setAccounts_keepsQueues (s : State) (v : Vector Account 128) : KeepsQueues s (s.setAccounts v) := .of_eq rfl rfl rfl

theorem commitAccounts_keepsQueues (s : State) (v : Vector Account 128) : KeepsQueues s (s.commitAccounts v) := by
  unfold State.commitAccounts
  exact (setAccounts_keepsQueues s v).trans ((objectsAtLoops_keepsQueues _ _).trans (edges_keepsQueues _ _))

/-! ### Override unit -/

theorem deliver_keepsQueues (s : State) (z : Fin 16) (n : ZoneNews) : KeepsQueues s (s.deliver z n) := by
  cases n with
  | evaluate => exact setAccounts_keepsQueues s _
  | loops => exact lightModeAtLoops_keepsQueues s z
  | lights => exact reevaluateAll_keepsQueues s _
  | blinds => exact reevaluateAll_keepsQueues s _

/-- Deliveries of one zone in a free order. -/
theorem deliverAll_keepsQueues (s : State) (z : Fin 16) (news : List ZoneNews) :
    KeepsQueues s (inFreeOrder (fun s n => s.deliver z n) news s) :=
  keepsQueues_chains.inFreeOrder (fun s n => deliver_keepsQueues s z n) news s

theorem changeStack_keepsQueues (s : State) (z : Fin 16) (l : List Override) (handed : Option Nat) :
    KeepsQueues s (s.changeStack z l handed) := by
  have hset : KeepsQueues s (s.setStack z l) := .of_eq rfl rfl rfl
  exact (hset.trans (setBlind_keepsQueues _ _ _)).trans (deliverAll_keepsQueues _ _ _)

theorem expireZone_keepsQueues (s : State) (z : Fin 16) : KeepsQueues s (s.expireZone z) := by
  unfold State.expireZone
  dsimp only
  split
  · exact .refl s
  · exact (edges_keepsQueues _ _).trans (changeStack_keepsQueues _ _ _ _)

theorem overrideMinute_keepsQueues (s : State) : KeepsQueues s s.overrideMinute := by
  unfold State.overrideMinute
  exact (keepsQueues_chains.foldl expireZone_keepsQueues _ _).from_eq rfl rfl rfl

theorem takePhase_keepsQueues (s : State) : KeepsQueues s s.takePhase := by
  unfold State.takePhase
  exact (keepsQueues_chains.foldl (fun t z => deliverAll_keepsQueues t z _) _ _).from_eq rfl rfl rfl

/-! ### Points and zones -/

theorem setPoint_keepsQueues (s : State) (p : Fin 64) (d : PointDyn) : KeepsQueues s (s.setPoint p d) := .of_eq rfl rfl rfl

theorem setZone_keepsQueues (s : State) (z : Fin 16) (d : ZoneDyn) : KeepsQueues s (s.setZone z d) := .of_eq rfl rfl rfl

theorem moveMeas_keepsQueues (s : State) (p : Fin 64) (d : MeasDyn) : KeepsQueues s (s.moveMeas p d) := by
  unfold State.moveMeas
  dsimp only
  split
  · exact ((setPoint_keepsQueues _ _ _).trans (lightDeparture_keepsQueues _ _)).trans (edges_keepsQueues _ _)
  · exact (setPoint_keepsQueues _ _ _).trans (edges_keepsQueues _ _)

theorem takeSample_keepsQueues (s : State) (p : Fin 64) (payload : List Byte) : KeepsQueues s (s.takeSample p payload) := by
  unfold State.takeSample
  split
  · split
    · split
      · dsimp only
        split
        · exact (moveMeas_keepsQueues _ _ _).trans (lightSample_keepsQueues _ _ _)
        · exact moveMeas_keepsQueues _ _ _
      · exact moveMeas_keepsQueues _ _ _
    · exact moveMeas_keepsQueues _ _ _
  · exact .refl s

theorem setPresence_keepsQueues (s : State) (z : Fin 16) (present : Bool) (absence : Option Nat) :
    KeepsQueues s (s.setPresence z present absence) := by
  unfold State.setPresence
  dsimp only
  split
  · exact setZone_keepsQueues _ _ _
  · exact (setZone_keepsQueues _ _ _).trans (reevaluateAll_keepsQueues _ _)

theorem countTold_keepsQueues (s : State) (z : Fin 16) (begins : Bool) : KeepsQueues s (s.countTold z begins) := by
  unfold State.countTold
  split
  · exact .refl s
  · split
    · exact setPresence_keepsQueues _ _ _ _
    · split
      · exact .refl s
      · exact setPresence_keepsQueues _ _ _ _

theorem membershipTold_keepsQueues (s : State) (z : Fin 16) (hadNone : Bool) : KeepsQueues s (s.membershipTold z hadNone) := by
  unfold State.membershipTold
  split
  · exact .refl s
  · split
    · exact setPresence_keepsQueues _ _ _ _
    · split
      · exact setPresence_keepsQueues _ _ _ _
      · exact .refl s

theorem movePres_keepsQueues (s : State) (p : Fin 64) (z : Fin 16) (d : PresDyn) : KeepsQueues s (s.movePres p z d) := by
  unfold State.movePres
  dsimp only
  split
  · exact (setPoint_keepsQueues _ _ _).trans (edges_keepsQueues _ _)
  · exact ((setPoint_keepsQueues _ _ _).trans (countTold_keepsQueues _ _ _)).trans (edges_keepsQueues _ _)

theorem takePresence_keepsQueues (s : State) (p : Fin 64) (reading : Bool) : KeepsQueues s (s.takePresence p reading) := by
  unfold State.takePresence
  split
  · exact movePres_keepsQueues _ _ _ _
  · exact .refl s

theorem zoneMinute_keepsQueues (s : State) : KeepsQueues s s.zoneMinute := by
  unfold State.zoneMinute
  exact (edges_keepsQueues _ _).from_eq rfl rfl rfl

theorem staleExpiry_keepsQueues (s : State) (p : Fin 64) : KeepsQueues s (s.staleExpiry p) := by
  unfold State.staleExpiry
  split
  · split
    · exact moveMeas_keepsQueues _ _ _
    · exact .refl s
  · exact .refl s
  · exact .refl s

theorem presenceStaleExpiry_keepsQueues (s : State) (p : Fin 64) : KeepsQueues s (s.presenceStaleExpiry p) := by
  unfold State.presenceStaleExpiry
  split
  · split
    · exact movePres_keepsQueues _ _ _ _
    · exact .refl s
  · exact .refl s

theorem stuckExpiry_keepsQueues (s : State) (p : Fin 64) : KeepsQueues s (s.stuckExpiry p) := by
  unfold State.stuckExpiry
  split
  · split
    · exact movePres_keepsQueues _ _ _ _
    · exact .refl s
  · exact .refl s

theorem absenceExpiry_keepsQueues (s : State) (z : Fin 16) : KeepsQueues s (s.absenceExpiry z) := by
  unfold State.absenceExpiry
  split
  · exact setPresence_keepsQueues _ _ _ _
  · exact .refl s

/-! ### Store -/

theorem setStore_keepsQueues (s : State) (x : Store) : KeepsQueues s (s.setStore x) := .of_eq rfl rfl rfl

theorem startCheckpoint_keepsQueues (s : State) : KeepsQueues s s.startCheckpoint := setStore_keepsQueues _ _

theorem startSave_keepsQueues (s : State) : KeepsQueues s s.startSave := setStore_keepsQueues _ _

theorem checkpointDue_keepsQueues (s : State) : KeepsQueues s s.checkpointDue := by
  unfold State.checkpointDue
  split <;> exact setStore_keepsQueues _ _

theorem storeMinute_keepsQueues (s : State) (minute : Nat) : KeepsQueues s (s.storeMinute minute) := by
  unfold State.storeMinute
  split
  · exact checkpointDue_keepsQueues s
  · exact .refl s

theorem startWaiting_keepsQueues (s : State) : KeepsQueues s s.startWaiting := by
  unfold State.startWaiting
  split
  · split
    · exact startSave_keepsQueues s
    · split
      · exact startCheckpoint_keepsQueues s
      · exact .refl s
  · exact .refl s

theorem moveStore_keepsQueues (s : State) (x : Store) : KeepsQueues s (s.moveStore x) :=
  (setStore_keepsQueues _ _).trans (edgesOrDefer_keepsQueues _ _)

/-! ### Calendar -/

theorem take_keepsQueues (s : State) (a : Act) : KeepsQueues s (s.take a) := by
  cases a with
  | zoneMinute => exact zoneMinute_keepsQueues s
  | overrideMinute => exact overrideMinute_keepsQueues s
  | exposureMinute => exact commitAccounts_keepsQueues s _
  | lightMinute => exact lightMinute_keepsQueues s
  | climateMinute => exact climateMinute_keepsQueues s
  | storeMinute minute => exact storeMinute_keepsQueues s minute
  | exposureDay n => exact commitAccounts_keepsQueues s _
  | storeDay => exact checkpointDue_keepsQueues s
  | phaseChange => exact takePhase_keepsQueues s
  | clockSetEdge => exact edges_keepsQueues s _

theorem takeOrHold_keepsQueues (s : State) (a : Act) : KeepsQueues s (s.takeOrHold a) := by
  unfold State.takeOrHold
  split
  · exact take_keepsQueues s a
  · split
    · exact take_keepsQueues s a
    · exact .of_eq rfl rfl rfl
    · dsimp only
      split
      · exact (keepsQueues_chains.free s _).trans (take_keepsQueues _ a)
      · exact .of_eq rfl rfl rfl

theorem takeAll_keepsQueues (s : State) (l : List Act) : KeepsQueues s (s.takeAll l) :=
  keepsQueues_chains.inFreeOrder takeOrHold_keepsQueues l s

theorem minuteBoundary_keepsQueues (s : State) (midnight : Bool) : KeepsQueues s (s.minuteBoundary midnight) := by
  unfold State.minuteBoundary
  exact (takeAll_keepsQueues _ _).from_eq rfl rfl rfl

theorem oneSecond_keepsQueues (s : State) : KeepsQueues s s.oneSecond := by
  have htick : KeepsQueues s ((s.setClock s.clock.advanced).tickTimers) := .of_eq (by simp) (by simp) (by simp)
  unfold State.oneSecond
  split
  · exact .refl s
  · dsimp only
    split
    · exact htick.trans (minuteBoundary_keepsQueues _ _)
    · exact htick

theorem setTime_keepsQueues (s : State) (c : Clock) : KeepsQueues s (s.setTime c) := by
  unfold State.setTime
  exact (takeAll_keepsQueues _ _).from_eq rfl rfl rfl

end Sys2Proof.Safety
end

section
/-! The queues and an owed service across table writes, resets, requests, reception and transmission: every step keeps them
(R6, R12). -/

namespace Sys2Proof.Safety

open Sys2Proof.Machine

/-! ### Table writes -/

theorem setTables_keepsQueues (s : State) (t : Tables) : KeepsQueues s (s.setTables t) := .of_eq rfl rfl rfl

theorem PortSound.rateWritten {p : Port} {q : PortState} (h : PortSound p q) (was rate : LineRate) :
    PortSound p (q.rateWritten was rate) := by
  unfold PortState.rateWritten
  split
  · exact h
  · split <;> exact h.congr rfl rfl

theorem writeDevice_keepsQueues (s : State) (e : DeviceEntry) : KeepsQueues s (s.writeDevice e) :=
  ⟨fun ⟨hb, h1, h2⟩ => ⟨hb.rateWritten _ _, h1.rateWritten _ _, h2.rateWritten _ _⟩, id⟩

theorem ceaseTold_keepsQueues (s : State) (counted : Bool) (former : Option (Fin 16)) : KeepsQueues s (s.ceaseTold counted former) := by
  unfold State.ceaseTold
  split
  · split
    · exact countTold_keepsQueues _ _ _
    · exact .refl s
  · exact .refl s

theorem membersTold_keepsQueues (s : State) (zone : Option (Fin 16)) (hadNone : Bool) :
    KeepsQueues s (s.membersTold zone hadNone) := by
  unfold State.membersTold
  split
  · exact membershipTold_keepsQueues _ _ _
  · exact .refl s

theorem writePoint_keepsQueues (s : State) (p : Fin 64) (r : Option PointRec) : KeepsQueues s (s.writePoint p r) := by
  unfold State.writePoint
  dsimp only
  refine .trans ?_ (edges_keepsQueues _ _)
  have hcease : ∀ t : State, KeepsQueues t (if s.points[p].isValid = true then t.lightDeparture p else t) := by
    intro t
    split
    · exact lightDeparture_keepsQueues _ _
    · exact .refl t
  have hset := (setTables_keepsQueues s { s.tables with points := s.tables.points.set p r }).trans
    (setPoint_keepsQueues _ p (freshPoint r))
  have htold := (hset.trans (hcease _)).trans (ceaseTold_keepsQueues _ s.points[p].counts (presenceZone s.tables.points[p]))
  split
  · exact htold
  · exact (htold.trans (membersTold_keepsQueues _ _ _)).trans (membersTold_keepsQueues _ _ _)

theorem serveAtWrite_keepsQueues (s : State) (a : Fin 64) : KeepsQueues s (s.serveAtWrite a) := by
  unfold State.serveAtWrite
  split
  · exact .refl s
  · split
    · exact serveMark_keepsQueues _ _
    · exact .refl s

theorem writeActuator_keepsQueues (s : State) (a : Fin 64) (r : Option ActRec) : KeepsQueues s (s.writeActuator a r) := by
  unfold State.writeActuator
  dsimp only
  exact (((moveActuator_keepsQueues _ _ _).trans (reevaluate_keepsQueues _ _)).trans (serveAtWrite_keepsQueues _ _)).from_eq
    rfl rfl rfl

theorem writeObject_keepsQueues (s : State) (i : Fin 128) (r : Option ObjectRec) : KeepsQueues s (s.writeObject i r) :=
  (setTables_keepsQueues s _).trans (commitAccounts_keepsQueues _ _)

theorem writeZone_keepsQueues (s : State) (z : Fin 16) (r : Option ZoneRec) : KeepsQueues s (s.writeZone z r) := by
  unfold State.writeZone
  dsimp only
  exact ((deliverAll_keepsQueues _ _ _).trans (edges_keepsQueues _ _)).from_eq rfl rfl rfl

theorem scheduleChanged_keepsQueues (s : State) : KeepsQueues s s.scheduleChanged := by
  have hphase : KeepsQueues s s.evaluatePhase.1 := .of_eq rfl rfl rfl
  unfold State.scheduleChanged
  dsimp only
  split
  · exact hphase.trans (takePhase_keepsQueues _)
  · exact hphase

theorem writeChecked_ok {α : Type} {x : Except Status α} {fits : α → Bool} {write : α → State} {t : State}
    (h : writeChecked x fits write = .ok t) : ∃ v, x = .ok v ∧ fits v = true ∧ t = write v := by
  unfold writeChecked at h
  split at h
  · cases h
  · split at h
    · cases h
      exact ⟨_, rfl, ‹_›, rfl⟩
    · cases h

theorem val_of_index?_eq_some {n b : Nat} {i : Fin b} (h : index? n b = some i) : i.val = n := by
  unfold index? at h
  split at h
  · cases h
    rfl
  · cases h

/-- The writes of the eight tables, each with the entry that its bytes spell (R173). -/
inductive EntryWrite (s : State) (bs : List Byte) : TableName → Nat → State → Prop
  | device (i : Nat) {e : DeviceEntry} (h : decodeDevice bs = .ok e) : EntryWrite s bs .device i (s.writeDevice e)
  | classifier (k : Fin 96) {e : Option ClassEntry} (h : decodeClass bs = .ok e) (hfits : classFits s.tables e = true) :
    EntryWrite s bs .classifier k.val (s.writeClass k e)
  | point (p : Fin 64) {r : Option PointRec} (h : decodePoint bs = .ok r) : EntryWrite s bs .point p.val (s.writePoint p r)
  | actuator (a : Fin 64) {r : Option ActRec} (h : decodeActuator bs = .ok r) :
    EntryWrite s bs .actuator a.val (s.writeActuator a r)
  | object (k : Fin 128) {r : Option ObjectRec} (h : decodeObject bs = .ok r) (hfits : objectFits s.tables r = true) :
    EntryWrite s bs .object k.val (s.writeObject k r)
  | zone (z : Fin 16) {r : Option ZoneRec} (h : decodeZone bs = .ok r) : EntryWrite s bs .zone z.val (s.writeZone z r)
  | week (w : Fin 7) {e : WeekEntry} (h : decodeWeek bs = .ok e) : EntryWrite s bs .schedule w.val (s.writeWeek w e)
  | holiday (k : Fin 16) {day : Option Nat} (h : decodeHoliday bs = .ok day) :
    EntryWrite s bs .schedule (7 + k.val) (s.writeHoliday k day)
  | notice (src : Fin 324) {e : NoticeEntry} (h : decodeNotice bs = .ok e) :
    EntryWrite s bs .notice src.val (s.writeNotice src e)

/-- An accepted entry has been written by its table's write. -/
theorem entryWrite_of_ok {s t : State} {table : TableName} {i : Nat} {bs : List Byte} (h : s.writeEntry table i bs = .ok t) :
    EntryWrite s bs table i t := by
  cases table with
  | device =>
    obtain ⟨e, he, -, rfl⟩ := writeChecked_ok h
    exact .device i he
  | classifier =>
    simp only [State.writeEntry] at h
    split at h
    · obtain ⟨e, he, hfits, rfl⟩ := writeChecked_ok h
      exact val_of_index?_eq_some ‹_› ▸ .classifier _ he hfits
    · cases h
  | point =>
    simp only [State.writeEntry] at h
    split at h
    · obtain ⟨e, he, -, rfl⟩ := writeChecked_ok h
      exact val_of_index?_eq_some ‹_› ▸ .point _ he
    · cases h
  | actuator =>
    simp only [State.writeEntry] at h
    split at h
    · obtain ⟨e, he, -, rfl⟩ := writeChecked_ok h
      exact val_of_index?_eq_some ‹_› ▸ .actuator _ he
    · cases h
  | object =>
    simp only [State.writeEntry] at h
    split at h
    · obtain ⟨e, he, hfits, rfl⟩ := writeChecked_ok h
      exact val_of_index?_eq_some ‹_› ▸ .object _ he hfits
    · cases h
  | zone =>
    simp only [State.writeEntry] at h
    split at h
    · obtain ⟨e, he, -, rfl⟩ := writeChecked_ok h
      exact val_of_index?_eq_some ‹_› ▸ .zone _ he
    · cases h
  | schedule =>
    simp only [State.writeEntry] at h
    split at h
    · obtain ⟨e, he, -, rfl⟩ := writeChecked_ok h
      exact val_of_index?_eq_some ‹_› ▸ .week _ he
    · rename_i k hweek hholiday
      obtain ⟨e, he, -, rfl⟩ := writeChecked_ok h
      have hge : 7 ≤ i := by
        refine Nat.le_of_not_lt fun hlt => ?_
        rw [index?_eq_some ⟨i, by omega⟩ rfl] at hweek
        cases hweek
      have hk := val_of_index?_eq_some hholiday
      have hi : i = 7 + k.val := by omega
      exact hi ▸ .holiday k he
    · cases h
  | notice =>
    simp only [State.writeEntry] at h
    split at h
    · obtain ⟨e, he, -, rfl⟩ := writeChecked_ok h
      exact val_of_index?_eq_some ‹_› ▸ .notice _ he
    · cases h

theorem writeEntry_keepsQueues {s t : State} {table : TableName} {i : Nat} {bs : List Byte}
    (h : s.writeEntry table i bs = .ok t) : KeepsQueues s t := by
  cases entryWrite_of_ok h with
  | device => exact writeDevice_keepsQueues _ _
  | classifier => exact setTables_keepsQueues _ _
  | point => exact writePoint_keepsQueues _ _ _
  | actuator => exact writeActuator_keepsQueues _ _ _
  | object => exact writeObject_keepsQueues _ _ _
  | zone => exact writeZone_keepsQueues _ _ _
  | week => exact (setTables_keepsQueues _ _).trans (scheduleChanged_keepsQueues _)
  | holiday => exact (setTables_keepsQueues _ _).trans (scheduleChanged_keepsQueues _)
  | notice => exact setTables_keepsQueues _ _

/-! ### Resets -/

/-- Ports at their reset values hold no entry, and no service is owed (R14). -/
theorem KeepsQueues.of_reset {s t : State} {d : DeviceEntry} (hports : t.ports = .afterReset d) (howed : t.owed = none) :
    KeepsQueues s t := by
  constructor
  · intro _
    unfold QueuesSound
    rw [hports]
    exact ⟨portSound_afterReset _ _, portSound_afterReset _ _, portSound_afterReset _ _⟩
  · intro _ g hg
    rw [howed] at hg
    cases hg

@[simp] theorem resetPorts_ports (s : State) : s.resetPorts.ports = .afterReset s.tables.device := rfl

@[simp] theorem resetPorts_owed (s : State) : s.resetPorts.owed = none := rfl

@[simp] theorem reloadTables_ports (s : State) (k : ResetKind) :
    (s.reloadTables k).ports = .afterReset (reloadedTables s.store.image).device := by simp [State.reloadTables]

@[simp] theorem reloadTables_owed (s : State) (k : ResetKind) : (s.reloadTables k).owed = none := by
  simp [State.reloadTables]

@[simp] theorem reloadUnits_ports (s : State) (k : ResetKind) (old : State) : (s.reloadUnits k old).ports = s.ports := by
  simp [State.reloadUnits]

@[simp] theorem reloadUnits_owed (s : State) (k : ResetKind) (old : State) : (s.reloadUnits k old).owed = s.owed := by
  simp [State.reloadUnits]

@[simp] theorem reloadCaps_ports (s : State) (k : ResetKind) (old : State) : (s.reloadCaps k old).ports = s.ports := by
  simp [State.reloadCaps]

@[simp] theorem reloadCaps_owed (s : State) (k : ResetKind) (old : State) : (s.reloadCaps k old).owed = s.owed := by
  simp [State.reloadCaps]

/-- R14: the reset values of the ports, at the rates of the reloaded DEVICE entry. -/
theorem resetValues_ports (s : State) (k : ResetKind) :
    (s.resetValues k).ports = .afterReset (reloadedTables s.store.image).device := by simp [State.resetValues]

theorem resetValues_owed (s : State) (k : ResetKind) : (s.resetValues k).owed = none := by simp [State.resetValues]

theorem reload_keepsQueues (s : State) (k : ResetKind) : KeepsQueues s (s.reload k) := by
  unfold State.reload
  exact (KeepsQueues.of_reset (resetValues_ports s k) (resetValues_owed s k)).trans ((keepsQueues_chains.foldl take_keepsQueues s.held _).from_eq rfl rfl rfl)

theorem enterReset_keepsQueues (s : State) (stage : ResetStage) : KeepsQueues s (s.enterReset stage) :=
  .of_reset (d := s.tables.device) rfl rfl

theorem startResetCheckpoint_keepsQueues (s : State) : KeepsQueues s s.startResetCheckpoint := .of_eq rfl rfl rfl

theorem beginHard_keepsQueues (s : State) : KeepsQueues s s.beginHard := by
  unfold State.beginHard
  split
  · exact (enterReset_keepsQueues _ _).trans (startResetCheckpoint_keepsQueues _)
  · exact (enterReset_keepsQueues _ _).trans (checkpointDue_keepsQueues _)

theorem continueSoft_keepsQueues (s : State) : KeepsQueues s s.continueSoft := by
  unfold State.continueSoft
  split
  · split
    · exact startCheckpoint_keepsQueues s
    · exact reload_keepsQueues s _
  · exact .refl s

theorem powerOn_keepsQueues (s : State) (written torn : List (Fin 128)) : KeepsQueues s (s.powerOn written torn) := by
  unfold State.powerOn
  exact (reload_keepsQueues _ _).from_eq rfl rfl rfl

theorem afterWrite_keepsQueues (s : State) : KeepsQueues s s.afterWrite := by
  unfold State.afterWrite
  split
  · exact startWaiting_keepsQueues s
  · exact startWaiting_keepsQueues s
  · exact startResetCheckpoint_keepsQueues s
  · exact reload_keepsQueues s _
  · exact continueSoft_keepsQueues s

theorem endCheckpoint_keepsQueues (s : State) (bad : List (Fin 128)) : KeepsQueues s (s.endCheckpoint bad) := by
  unfold State.endCheckpoint
  split
  · exact (moveStore_keepsQueues _ _).trans (afterWrite_keepsQueues _)
  · exact .refl s
  · exact .refl s

theorem replySave_keepsQueues (s : State) (equal : Bool) : KeepsQueues s (s.replySave equal) := by
  unfold State.replySave
  split
  · exact .refl s
  · exact .trans (offer_keepsQueues s .b (.reply _) rfl (fun _ => rfl)) (.of_eq rfl rfl rfl)

theorem endSave_keepsQueues (s : State) (equal : Bool) : KeepsQueues s (s.endSave equal) := by
  unfold State.endSave
  split
  · exact ((moveStore_keepsQueues _ _).trans (replySave_keepsQueues _ _)).trans (afterWrite_keepsQueues _)
  · exact .refl s
  · exact .refl s

theorem completeReset_keepsQueues (s : State) : KeepsQueues s s.completeReset := by
  unfold State.completeReset
  split
  · dsimp only
    exact (reevaluateAll_keepsQueues s _).trans ((edges_keepsQueues _ _).from_eq rfl rfl rfl)
  all_goals exact .refl s

/-! ### Requests -/

/-- A request keeps what its effects keep: the REPLY joins the queue of B (R168). -/
theorem serve_keepsQueues (s : State) (name : Byte) (r : Request) (f : State → List Byte → Answer)
    (h : KeepsQueues s (f s r.params).1) : KeepsQueues s (s.serve name r f) := by
  unfold State.serve
  split
  · exact .refl s
  · exact h.trans (offer_keepsQueues _ .b (.reply _) rfl (fun _ => rfl))

theorem refused_keepsQueues (s : State) (channel : Byte) (nameAndTag : List Byte) (st : Status) :
    KeepsQueues s (s.replied channel nameAndTag (refuse s st)) :=
  offer_keepsQueues s .b (.reply _) rfl (fun _ => rfl)

theorem unlessBusy_keepsQueues {s : State} {a : Answer} (h : KeepsQueues s a.1) : KeepsQueues s (unlessBusy s a).1 := by
  unfold unlessBusy
  split
  · exact .refl s
  · exact h

/-- The requests that only read. -/
theorem query_keepsQueues (s : State) (ps : List Byte) : KeepsQueues s (answerPoint s ps).1 ∧
    KeepsQueues s (answerActuator s ps).1 ∧ KeepsQueues s (answerObject s ps).1 ∧ KeepsQueues s (answerZone s ps).1 ∧
    KeepsQueues s (answerReadEntry s ps).1 := by
  refine ⟨?_, ?_, ?_, ?_, ?_⟩
  · unfold answerPoint
    split
    · exact .refl s
    · split
      · exact .refl s
      · split <;> exact .refl s
  · unfold answerActuator
    split
    · exact .refl s
    · split
      · exact .refl s
      · split <;> exact .refl s
  · unfold answerObject
    split
    · exact .refl s
    · split <;> exact .refl s
  · unfold answerZone
    split
    · exact .refl s
    · split <;> exact .refl s
  · unfold answerReadEntry
    split
    · exact .refl s
    · split <;> exact .refl s

theorem answerSetTime_keepsQueues (s : State) (ps : List Byte) : KeepsQueues s (answerSetTime s ps).1 := by
  unfold answerSetTime
  split
  · exact .refl s
  · split
    · exact setTime_keepsQueues s _
    · exact .refl s

theorem answerLoadOpen_keepsQueues (s : State) (ps : List Byte) : KeepsQueues s (answerLoadOpen s ps).1 := by
  unfold answerLoadOpen
  apply unlessBusy_keepsQueues
  split
  · exact .refl s
  · split
    · exact .refl s
    · split
      · split
        · exact .of_eq rfl rfl rfl
        · exact .refl s
      · exact .refl s

theorem answerLoadEntry_keepsQueues (s : State) (ps : List Byte) : KeepsQueues s (answerLoadEntry s ps).1 := by
  unfold answerLoadEntry
  apply unlessBusy_keepsQueues
  split
  · exact .refl s
  · split
    · exact .refl s
    · rename_i hwrite
      exact (writeEntry_keepsQueues hwrite).trans (.of_eq rfl rfl rfl)

theorem answerLoadAbort_keepsQueues (s : State) (ps : List Byte) : KeepsQueues s (answerLoadAbort s ps).1 := by
  unfold answerLoadAbort
  split
  · exact .refl s
  · exact .of_eq rfl rfl rfl

theorem answerPush_keepsQueues (s : State) (ps : List Byte) : KeepsQueues s (answerPush s ps).1 := by
  unfold answerPush
  split
  · exact .refl s
  · split
    · exact .refl s
    · split
      · exact .refl s
      · split
        · exact .refl s
        · split
          · exact .refl s
          · exact changeStack_keepsQueues _ _ _ _

theorem answerPop_keepsQueues (s : State) (ps : List Byte) : KeepsQueues s (answerPop s ps).1 := by
  unfold answerPop
  split
  · exact .refl s
  · split
    · exact .refl s
    · split
      · exact .refl s
      · split
        · exact changeStack_keepsQueues _ _ _ _
        · exact .refl s

theorem answerCancel_keepsQueues (s : State) (ps : List Byte) : KeepsQueues s (answerCancel s ps).1 := by
  unfold answerCancel
  split
  · exact .refl s
  · split
    · exact .refl s
    · split
      · exact .refl s
      · split
        · exact .refl s
        · exact changeStack_keepsQueues _ _ _ _

theorem answerClear_keepsQueues (s : State) (ps : List Byte) : KeepsQueues s (answerClear s ps).1 := by
  unfold answerClear
  split
  · exact .refl s
  · split
    · exact .refl s
    · exact changeStack_keepsQueues _ _ _ _

theorem answerAccount_keepsQueues (s : State) (i : Fin 128) (f : ObjectRec → Account → Account) :
    KeepsQueues s (answerAccount s i f).1 := by
  unfold answerAccount
  split
  · exact .refl s
  · exact commitAccounts_keepsQueues _ _

theorem answerPeriodStart_keepsQueues (s : State) (ps : List Byte) : KeepsQueues s (answerPeriodStart s ps).1 := by
  unfold answerPeriodStart
  apply unlessBusy_keepsQueues
  split
  · exact .refl s
  · split
    · exact .refl s
    · exact answerAccount_keepsQueues _ _ _

theorem answerDoseSet_keepsQueues (s : State) (ps : List Byte) : KeepsQueues s (answerDoseSet s ps).1 := by
  unfold answerDoseSet
  apply unlessBusy_keepsQueues
  split
  · exact .refl s
  · split
    · exact .refl s
    · exact answerAccount_keepsQueues _ _ _

theorem onSaveConfig_keepsQueues (s : State) (r : Request) : KeepsQueues s (s.onSaveConfig r) := by
  unfold State.onSaveConfig State.acceptSave
  split
  · exact .refl s
  · split
    · exact refused_keepsQueues _ _ _ _
    · split
      · exact .of_eq rfl rfl rfl
      · exact .of_eq rfl rfl rfl

theorem onReset_keepsQueues (s : State) (r : Request) : KeepsQueues s (s.onReset r) := by
  unfold State.onReset
  split
  · exact .refl s
  · split
    · exact refused_keepsQueues _ _ _ _
    · split
      · exact (enterReset_keepsQueues _ _).trans (continueSoft_keepsQueues _)
      · exact beginHard_keepsQueues s

theorem onRequest_keepsQueues (s : State) (name : Byte) (r : Request) : KeepsQueues s (s.onRequest name r) := by
  obtain ⟨hpoint, hactuator, hobject, hzone, hread⟩ := query_keepsQueues s r.params
  unfold State.onRequest
  split
  · exact serve_keepsQueues s _ r _ (.refl s)
  · exact serve_keepsQueues s _ r _ hpoint
  · exact serve_keepsQueues s _ r _ hactuator
  · exact serve_keepsQueues s _ r _ hobject
  · exact serve_keepsQueues s _ r _ hzone
  · exact serve_keepsQueues s _ r _ (answerSetTime_keepsQueues _ _)
  · exact serve_keepsQueues s _ r _ (answerLoadOpen_keepsQueues _ _)
  · exact serve_keepsQueues s _ r _ (answerLoadEntry_keepsQueues _ _)
  · exact serve_keepsQueues s _ r _ (answerLoadAbort_keepsQueues _ _)
  · exact serve_keepsQueues s _ r _ hread
  · exact serve_keepsQueues s _ r _ (answerPush_keepsQueues _ _)
  · exact serve_keepsQueues s _ r _ (answerPop_keepsQueues _ _)
  · exact serve_keepsQueues s _ r _ (answerCancel_keepsQueues _ _)
  · exact serve_keepsQueues s _ r _ (answerClear_keepsQueues _ _)
  · exact serve_keepsQueues s _ r _ (answerPeriodStart_keepsQueues _ _)
  · exact serve_keepsQueues s _ r _ (answerDoseSet_keepsQueues _ _)
  · exact serve_keepsQueues s _ r _ (.of_eq rfl rfl rfl)
  · exact onSaveConfig_keepsQueues s r
  · exact onReset_keepsQueues s r
  · exact serve_keepsQueues s _ r _ (.refl s)

theorem respond_keepsQueues (s : State) (channel : Byte) (payload : List Byte) : KeepsQueues s (s.respond channel payload) := by
  unfold State.respond
  split
  · split
    · exact .refl s
    · exact refused_keepsQueues _ _ _ _
  · exact onRequest_keepsQueues _ _ _

/-! ### Frames and bytes -/

theorem useAndRelay_keepsQueues (s : State) (p : Port) (frame : List Byte) {hand : State → State}
    (h : ∀ t, KeepsQueues t (hand t)) : KeepsQueues s (s.useAndRelay p frame hand) := by
  refine keepsQueues_chains.inFreeOrder (fun t u => ?_) _ s
  cases u with
  | hand => exact h t
  | relay => exact relay_keepsQueues t p frame

theorem act_keepsQueues (s : State) (k : FrameKind) (p : Port) (frame : List Byte) (c : Classified) :
    KeepsQueues s (s.act k p frame c) := by
  cases c with
  | unmatched => exact relay_keepsQueues s p frame
  | pass => exact relay_keepsQueues s p frame
  | drop => exact .refl s
  | point i present =>
    refine useAndRelay_keepsQueues s p frame (fun t => ?_)
    unfold State.handToPoint
    split
    · exact takePresence_keepsQueues _ _ _
    · exact takeSample_keepsQueues _ _ _
  | actuator a =>
    unfold State.act
    dsimp only
    split
    · exact takeCommand_keepsQueues _ _ _
    · exact useAndRelay_keepsQueues s p frame (fun t => takeFeedback_keepsQueues t _ _)

theorem complete_keepsQueues (s : State) (p : Port) (frame : List Byte) : KeepsQueues s (s.complete p frame) := by
  unfold State.complete
  split
  · split
    · exact .refl s
    · unfold State.manageFrame
      split
      · split
        · exact respond_keepsQueues _ _ _
        · exact .refl s
      · exact relay_keepsQueues _ _ _
    · exact act_keepsQueues _ _ _ _ _
  · exact .refl s

theorem setAssembly_keepsQueues (s : State) (p : Port) (x : Assembly) : KeepsQueues s (s.setAssembly p x) :=
  setPort_keepsQueues s p _ (fun h => h.congr rfl rfl)

theorem gather_keepsQueues (s : State) (p : Port) (b : Byte) : KeepsQueues s (s.gather p b) := by
  unfold State.gather
  split
  · exact setAssembly_keepsQueues _ _ _
  · exact setAssembly_keepsQueues _ _ _
  · split
    · exact setAssembly_keepsQueues _ _ _
    · exact setAssembly_keepsQueues _ _ _
    · exact (setAssembly_keepsQueues _ _ _).trans (complete_keepsQueues _ _ _)

/-! ### Ends of transmission -/

theorem applyRate_keepsQueues (s : State) (p : Port) : KeepsQueues s (s.applyRate p) := by
  unfold State.applyRate
  split
  · exact setPort_keepsQueues _ _ _ (fun h => h.congr rfl rfl)
  · exact .refl s

/-- An end of transmission leaves its service owed only when the command that takes it stands next (log 6). -/
theorem endService_keepsQueues (s : State) (g : Gallery) : KeepsQueues s (s.endService g) := by
  unfold State.endService
  dsimp only
  split
  · rename_i hnext
    refine ⟨id, fun _ g' hg => ?_⟩
    cases hg
    exact hnext
  · refine ⟨fun h => (takeService_keepsQueues { s with owed := some g } g).queues h, fun _ g' hg => ?_⟩
    rw [State.takeService_owed _ _ rfl, (serviceMarks_issues _ _).owed] at hg
    cases hg

theorem serviceAt_keepsQueues (s : State) (p : Port) : KeepsQueues s (s.serviceAt p) := by
  cases p with
  | b => exact .refl s
  | g1 => exact endService_keepsQueues s .g1
  | g2 => exact endService_keepsQueues s .g2

theorem toldComplete_keepsQueues (s : State) (e : QEntry) : KeepsQueues s (s.toldComplete e) := by
  cases e with
  | governor a _ _ _ => exact completionTold_keepsQueues s a
  | _ => exact .refl s

theorem toldAbandoned_keepsQueues (s : State) (e : QEntry) : KeepsQueues s (s.toldAbandoned e) := by
  cases e with
  | governor a _ _ _ => exact setMark_keepsQueues s a true
  | _ => exact .refl s

theorem completeTransmission_keepsQueues (s : State) (p : Port) : KeepsQueues s (s.completeTransmission p) := by
  unfold State.completeTransmission
  dsimp only
  split
  · exact (((setPort_keepsQueues s p _ PortSound.ended).trans (applyRate_keepsQueues _ _)).trans
      (toldComplete_keepsQueues _ _)).trans (serviceAt_keepsQueues _ _)
  · exact .refl s

theorem abandonTransmission_keepsQueues (s : State) (p : Port) : KeepsQueues s (s.abandonTransmission p) := by
  unfold State.abandonTransmission
  dsimp only
  split
  · have hset := setPort_keepsQueues s p { (s.port p).ended with assembly := .discarding } (fun h => h.ended.congr rfl rfl)
    exact ((hset.trans (applyRate_keepsQueues _ _)).trans (toldAbandoned_keepsQueues _ _)).trans (serviceAt_keepsQueues _ _)
  · exact .refl s

theorem startTransmission_keepsQueues (s : State) (p : Port) : KeepsQueues s (s.startTransmission p) := by
  unfold State.startTransmission
  split
  · rename_i hmay
    have hne : (s.port p).queue ≠ [] := by
      rintro hnil
      simp [PortState.mayStart, hnil] at hmay
    exact setPort_keepsQueues _ _ _ (fun h => h.sendingHead hne _ _)
  · exact .refl s

theorem takeByte_keepsQueues (s : State) (p : Port) (b : Byte) : KeepsQueues s (s.takeByte p b) := by
  unfold State.takeByte
  split
  · rename_i n htx
    unfold State.readBack
    dsimp only
    split
    · split
      · exact completeTransmission_keepsQueues s p
      · exact setPort_keepsQueues _ _ _ (fun h => h.sendingHead (h.2.2.2 (by simp [htx])) _ _)
    · exact abandonTransmission_keepsQueues s p
  · exact gather_keepsQueues s p b

theorem silence_keepsQueues (s : State) (p : Port) : KeepsQueues s (s.silence p) := by
  unfold State.silence
  split
  · exact .refl s
  · exact setPort_keepsQueues _ _ _ (fun h => h.congr rfl rfl)

theorem lineBreak_keepsQueues (s : State) (p : Port) : KeepsQueues s (s.lineBreak p) := by
  unfold State.lineBreak
  split
  · exact abandonTransmission_keepsQueues s p
  · unfold State.breakReceived
    split
    · exact setAssembly_keepsQueues _ _ _
    · exact setAssembly_keepsQueues _ _ _
    · exact (keepsQueues_chains.free s _).trans (setAssembly_keepsQueues _ _ _)

/-! ### Every command -/

/-- Every command keeps the queues within R6, and leaves a service owed to the next command alone. -/
theorem exec_keepsQueues (c : Instr) (s t : State) (h : exec c s = .next t) : KeepsQueues s t := by
  cases c with
  | frameArrival p bytes =>
    cases h
    exact keepsQueues_chains.foldl (fun s b => (settled_keepsQueues s).trans (takeByte_keepsQueues _ p b)) bytes s
  | lineSilence p => cases h; exact silence_keepsQueues s p
  | receiveBreak p => cases h; exact lineBreak_keepsQueues s p
  | transmissionStart p => cases h; exact startTransmission_keepsQueues s p
  | transmissionComplete p => cases h; exact completeTransmission_keepsQueues s p
  | transmissionAbandon p => cases h; exact abandonTransmission_keepsQueues s p
  | sendPendingService g => cases h; exact takeService_keepsQueues s g
  | clockAdvance => cases h; exact oneSecond_keepsQueues s
  | checkpointStart =>
    cases h
    split
    · exact startCheckpoint_keepsQueues s
    · exact .refl s
  | checkpointWriteEnd bad => cases h; exact endCheckpoint_keepsQueues s bad
  | saveStart =>
    cases h
    split
    · exact startSave_keepsQueues s
    · exact .refl s
  | saveEnd equal => cases h; exact endSave_keepsQueues s equal
  | staleTimerExpiry p => cases h; exact staleExpiry_keepsQueues s p
  | presenceStaleExpiry p => cases h; exact presenceStaleExpiry_keepsQueues s p
  | stuckTimerExpiry p => cases h; exact stuckExpiry_keepsQueues s p
  | absenceTimerExpiry z => cases h; exact absenceExpiry_keepsQueues s z
  | feedbackTimerExpiry a => cases h; exact feedbackExpiry_keepsQueues s a
  | unknownRequest channel payload => cases h; exact respond_keepsQueues s channel payload
  | queryDevice r => cases h; exact onRequest_keepsQueues s 0x01 r
  | queryPoint r => cases h; exact onRequest_keepsQueues s 0x02 r
  | queryActuator r => cases h; exact onRequest_keepsQueues s 0x03 r
  | queryObject r => cases h; exact onRequest_keepsQueues s 0x04 r
  | queryZone r => cases h; exact onRequest_keepsQueues s 0x05 r
  | setTime r => cases h; exact onRequest_keepsQueues s 0x10 r
  | loadOpen r => cases h; exact onRequest_keepsQueues s 0x20 r
  | loadEntry r => cases h; exact onRequest_keepsQueues s 0x21 r
  | loadAbort r => cases h; exact onRequest_keepsQueues s 0x22 r
  | readEntry r => cases h; exact onRequest_keepsQueues s 0x23 r
  | overridePush r => cases h; exact onRequest_keepsQueues s 0x30 r
  | overridePop r => cases h; exact onRequest_keepsQueues s 0x31 r
  | overrideCancel r => cases h; exact onRequest_keepsQueues s 0x32 r
  | overrideClear r => cases h; exact onRequest_keepsQueues s 0x33 r
  | objectPeriodStart r => cases h; exact onRequest_keepsQueues s 0x40 r
  | doseSet r => cases h; exact onRequest_keepsQueues s 0x41 r
  | collectNotices r => cases h; exact onRequest_keepsQueues s 0x50 r
  | saveConfig r => cases h; exact onSaveConfig_keepsQueues s r
  | resetHard channel tag => cases h; exact onReset_keepsQueues s _
  | resetSoft channel tag => cases h; exact onReset_keepsQueues s _
  | powerOnReset written torn => cases h; exact powerOn_keepsQueues s written torn
  | resetComplete => cases h; exact completeReset_keepsQueues s
  | byteReceived p byte => cases h; exact takeByte_keepsQueues s p byte

/-- A service that is owed is taken by the command it is owed to. -/
theorem takeService_owedNone {s : State} {g : Gallery} (h : s.owed = some g) : (s.takeService g).owed = none := by
  rw [State.takeService_owed s g h, (serviceMarks_issues _ _).owed]

/-- Settles O54: a step runs one command with the queue's rest; a service owed on entry is taken by it. -/
theorem stepsKeepTheQueuesSound : Obligations.StepsKeepTheQueuesSound := by
  intro s t hstep
  unfold step at hstep
  split at hstep
  · cases hstep
    exact ⟨id, id⟩
  · rename_i c rest hpending
    have hkeeps := exec_keepsQueues c _ t hstep
    refine ⟨hkeeps.queues, fun howed => ?_⟩
    cases hs : s.owed with
    | none => exact hkeeps.owed (fun g hg => by simp [hs] at hg)
    | some g =>
      have hnext := howed g hs
      rw [hpending, List.head?_cons, Option.some_inj] at hnext
      subst hnext
      cases hstep
      intro g' hg'
      have hnone := takeService_owedNone (s := { s with pending := rest }) hs
      rw [hnone] at hg'
      cases hg'

end Sys2Proof.Safety
end

section
/-! The state after reset meets every invariant (R14, R60, R79, R117, R121, R152, R167, R180, R182). -/

namespace Sys2Proof.Safety

open Sys2Proof.Machine

/-- The factory configuration names no record, so its tables have nothing to check (12.5). -/
theorem tablesSound_factory : TablesSound factoryTables :=
  ⟨fun p r h => by simp [factoryTables] at h, fun i r h => by simp [factoryTables] at h⟩

theorem allTablesSound_reset : AllTablesSound .reset :=
  ⟨tablesSound_factory, tablesSound_factory, fun _ h => nomatch h⟩

theorem blindLimits_factory : BlindLimits factoryTables := fun z r h => by simp [factoryTables] at h

theorem queuesSound_reset : QueuesSound .reset :=
  ⟨portSound_afterReset _ _, portSound_afterReset _ _, portSound_afterReset _ _⟩

theorem clockSound_reset : ClockSound .reset := by
  refine ⟨?_, ?_, ?_, ?_⟩ <;> exact Nat.zero_le _

theorem stacksSound_reset : StacksSound .reset := fun z => by simp [State.reset]

theorem loopsSound_reset : LoopsSound .reset := fun a => by
  simp [LoopSound, State.reset, factoryTables, spotFields, LoopCtx.unused]

theorem storeSound_reset : StoreSound .reset := by
  refine ⟨rfl, fun _ => ⟨rfl, rfl⟩, fun _ => rfl, fun h => ?_⟩
  simp [State.reset, waitsForWrite] at h

theorem pointsSound_reset : PointsSound .reset :=
  ⟨allTablesSound_reset, fun p => by simp [PointSound, State.reset, factoryTables]⟩

theorem accountsSound_reset : AccountsSound .reset :=
  ⟨allTablesSound_reset, fun i => by simp [State.reset, factoryTables]⟩

theorem zonesSound_reset : ZonesSound .reset := fun z _ => by simp [State.reset]

theorem actuatorsSound_reset : ActuatorsSound .reset := fun a => by
  simp [ActuatorSound, State.reset, factoryTables, ActDyn.unused]

theorem blindsSound_reset : BlindsSound .reset := by
  refine ⟨blindLimits_factory, blindLimits_factory, fun _ h => ?_, fun z => by simp [State.reset, factoryTables]⟩
  simp [State.reset, Store.blank] at h

/-- Settles O53: no record is in use, so each invariant is read off the reset values. -/
theorem resetMeetsTheInvariants : Obligations.ResetMeetsTheInvariants :=
  ⟨queuesSound_reset, clockSound_reset, stacksSound_reset, .nil, loopsSound_reset, storeSound_reset, pointsSound_reset,
    accountsSound_reset, zonesSound_reset, actuatorsSound_reset, blindsSound_reset, fun _ h => nomatch h⟩

end Sys2Proof.Safety
end

section
/-! Reception (R1) and transmission (R7): what a byte, a break and a silence do. -/

namespace Sys2Proof.Machine

/-! ### The receive assembly -/

/-- Outside a transmission a byte goes to the assembly. -/
theorem State.takeByte_receiving {s : State} {p : Port} (h : (s.port p).tx = none) (b : Byte) : s.takeByte p b = s.gather p b := by
  unfold State.takeByte
  rw [h]

/-- Outside a transmission a break goes to the assembly. -/
theorem State.lineBreak_receiving {s : State} {p : Port} (h : (s.port p).tx = none) : s.lineBreak p = s.breakReceived p := by
  unfold State.lineBreak
  simp [h]

theorem State.gather_idle {s : State} {p : Port} (h : (s.port p).assembly = .idle) (b : Byte) :
    s.gather p b = s.setAssembly p (if b = startByte then .assembling [b] else .discarding) := by
  unfold State.gather
  rw [h]

theorem State.gather_discarding {s : State} {p : Port} (h : (s.port p).assembly = .discarding) (b : Byte) :
    s.gather p b = s.setAssembly p .discarding := by
  unfold State.gather
  rw [h]

theorem State.gather_more {s : State} {p : Port} {bytes : List Byte} {b : Byte} (h : (s.port p).assembly = .assembling bytes)
    (hg : gathered (bytes ++ [b]) = .more) : s.gather p b = s.setAssembly p (.assembling (bytes ++ [b])) := by
  simp only [State.gather, h, hg]

theorem State.gather_bad {s : State} {p : Port} {bytes : List Byte} {b : Byte} (h : (s.port p).assembly = .assembling bytes)
    (hg : gathered (bytes ++ [b]) = .bad) : s.gather p b = s.setAssembly p .discarding := by
  simp only [State.gather, h, hg]

theorem State.gather_whole {s : State} {p : Port} {bytes : List Byte} {b : Byte} (h : (s.port p).assembly = .assembling bytes)
    (hg : gathered (bytes ++ [b]) = .whole) : s.gather p b = (s.setAssembly p .idle).complete p (bytes ++ [b]) := by
  simp only [State.gather, h, hg]

theorem State.breakReceived_discarding {s : State} {p : Port} (h : (s.port p).assembly = .discarding) :
    s.breakReceived p = s.setAssembly p .discarding := by
  unfold State.breakReceived
  rw [h]

theorem State.breakReceived_assembling {s : State} {p : Port} {bytes : List Byte} (h : (s.port p).assembly = .assembling bytes) :
    s.breakReceived p = s.setAssembly p .discarding := by
  unfold State.breakReceived
  rw [h]

/-! ### The judgement on the bytes gathered -/

theorem gathered_short {frame : List Byte} (h : frame.length < 6) : gathered frame = .more := if_pos h

theorem gathered_bad {frame : List Byte} (hlen : 6 ≤ frame.length)
    (h : 64 < frameLength frame ∨ kindOfCode (byteAt frame 1) = none) : gathered frame = .bad := by
  unfold gathered
  rw [if_neg (by omega), if_pos (by simpa using h)]

theorem gathered_good {frame : List Byte} (hlen : 6 ≤ frame.length) (hlength : frameLength frame ≤ 64)
    (hkind : kindOfCode (byteAt frame 1) ≠ none) :
    gathered frame = if 8 + frameLength frame ≤ frame.length then .whole else .more := by
  unfold gathered
  rw [if_neg (by omega), if_neg (by simpa using ⟨hlength, hkind⟩)]

/-! ### Transmission -/

/-- During a transmission a byte is read back. -/
theorem State.takeByte_sending {s : State} {p : Port} {n : Nat} (h : (s.port p).tx = some n) (b : Byte) :
    s.takeByte p b = s.readBack p n b := by
  unfold State.takeByte
  rw [h]

/-- During a transmission a break is a line fault. -/
theorem State.lineBreak_sending {s : State} {p : Port} {n : Nat} (h : (s.port p).tx = some n) :
    s.lineBreak p = s.abandonTransmission p := by
  unfold State.lineBreak
  simp [h]

/-- A byte read back is held against byte `n` of the head. -/
theorem State.readBack_head {s : State} {p : Port} {e : QEntry} {rest : List QEntry} (h : (s.port p).queue = e :: rest) (n : Nat)
    (b : Byte) : s.readBack p n b =
      if e.bytes[n]? = some b then
        if n + 1 = e.bytes.length then s.completeTransmission p
        else s.setPort p { s.port p with tx := some (n + 1), quiet := false }
      else s.abandonTransmission p := by
  unfold State.readBack
  rw [h]
  rfl

theorem PortState.mayStart_iff (q : PortState) :
    q.mayStart = true ↔ q.queue ≠ [] ∧ q.tx = none ∧ q.assembly = .idle ∧ q.quiet = true := by
  simp [PortState.mayStart, and_assoc]

theorem State.startTransmission_of {s : State} {p : Port} (h : (s.port p).mayStart = true) :
    s.startTransmission p = s.setPort p { s.port p with tx := some 0 } := if_pos h

theorem State.startTransmission_not {s : State} {p : Port} (h : ¬ (s.port p).mayStart = true) : s.startTransmission p = s :=
  if_neg h

/-- Settles O4, by the state of the assembly and, in ASSEMBLING, the judgement on the bytes gathered. -/
theorem receptionOfBytes : Obligations.ReceptionOfBytes := by
  intro s p
  refine ⟨fun hreset => by simp [State.silence, hreset], ?_⟩
  intro htx b took
  have hbyte : exec (.byteReceived p b) s = .next (s.gather p b) := by
    rw [exec_byteReceived, State.takeByte_receiving htx]
  have hbreak : exec (.receiveBreak p) s = .next (s.breakReceived p) := by
    rw [exec_receiveBreak, State.lineBreak_receiving htx]
  rw [hbyte, hbreak]
  refine ⟨fun hidle => ?_, fun hdiscarding => ⟨?_, ?_⟩, ?_⟩
  · rw [State.gather_idle hidle]
    rfl
  · rw [State.gather_discarding hdiscarding]
    rfl
  · rw [State.breakReceived_discarding hdiscarding]
    rfl
  · intro bytes hassembling frame length
    refine ⟨?_, fun hshort => ?_, fun hlen hbad => ?_, fun hlen hlength hkind => ⟨fun hless => ?_, fun hwhole => ?_⟩⟩
    · rw [State.breakReceived_assembling hassembling]
      rfl
    · rw [State.gather_more hassembling (gathered_short hshort)]
      rfl
    · rw [State.gather_bad hassembling (gathered_bad hlen hbad)]
      rfl
    · rw [State.gather_more hassembling ((gathered_good hlen hlength hkind).trans (if_neg (Nat.not_le.2 hless)))]
      rfl
    · rw [State.gather_whole hassembling ((gathered_good hlen hlength hkind).trans (if_pos hwhole))]
      rfl

/-- Settles O5, by the conditions of a start and by the byte of the head that is read back. -/
theorem transmissionAndReadBack : Obligations.TransmissionAndReadBack := by
  intro s p
  refine ⟨fun hqueue htx hasm hquiet => ?_, fun hnot => ?_, fun n e rest htx hqueue => ⟨?_, fun b => ?_⟩⟩
  · rw [exec_transmissionStart, State.startTransmission_of ((PortState.mayStart_iff _).2 ⟨hqueue, htx, hasm, hquiet⟩)]
  · rw [exec_transmissionStart, State.startTransmission_not]
    rw [PortState.mayStart_iff]
    rintro ⟨hqueue, htx, hasm, hquiet⟩
    simp_all
  · rw [exec_receiveBreak, exec_transmissionAbandon, State.lineBreak_sending htx]
  · rw [exec_byteReceived, State.takeByte_sending htx, State.readBack_head hqueue, exec_transmissionComplete,
      exec_transmissionAbandon]
    refine ⟨fun hequal hmore => ?_, fun hequal hlast => ?_, fun hdiffers => ?_⟩
    · rw [if_pos hequal, if_neg (by omega)]
    · rw [if_pos hequal, if_pos hlast]
    · rw [if_neg hdiffers]

end Sys2Proof.Machine
end

section
/-! Ends of transmission (R8, R9, R12, R13, R113) and the service of the SEND_PENDING marks (R12, R147). -/

namespace Sys2Proof.Machine

open Sys2Proof.Safety

/-! ### The end of a transmission -/

/-- Without a transmission there is nothing to complete or to abandon. -/
theorem State.endTransmission_none {s : State} {p : Port} (h : (s.port p).tx = none ∨ (s.port p).queue = []) :
    s.completeTransmission p = s ∧ s.abandonTransmission p = s := by
  unfold State.completeTransmission State.abandonTransmission
  rcases h with h | h <;> simp [h]

/-- A head that completes leaves its port freed; the actuator unit is told and the marks are served. -/
theorem State.completeTransmission_head {s : State} {p : Port} {n : Nat} {e : QEntry} {rest : List QEntry}
    (htx : (s.port p).tx = some n) (hqueue : (s.port p).queue = e :: rest) :
    s.completeTransmission p = ((s.setPort p (freed (s.port p) (deviceRate s p))).toldComplete e).serviceAt p := by
  have hfreed := State.applyRate_ended s p (s.port p).ended rfl rfl rfl rfl rfl rfl
  simp only [State.completeTransmission, htx, hqueue, hfreed]

/-- A port whose head was abandoned, with a changed rate in effect (R9, R13). -/
theorem State.applyRate_abandoned (s : State) (p : Port) :
    (s.setPort p { (s.port p).ended with assembly := .discarding }).applyRate p =
      s.setPort p { freed (s.port p) (deviceRate s p) with assembly := .discarding } := by
  unfold State.applyRate freed
  rw [State.port_setPort]
  cases h : (s.port p).rateDue with
  | false => simp [PortState.ended, h]
  | true => cases p <;> simp [PortState.ended, PortState.withRate, h, deviceRate]

/-- A head that is abandoned leaves its port freed and DISCARDING; its actuator is marked and the marks are served. -/
theorem State.abandonTransmission_head {s : State} {p : Port} {n : Nat} {e : QEntry} {rest : List QEntry}
    (htx : (s.port p).tx = some n) (hqueue : (s.port p).queue = e :: rest) :
    s.abandonTransmission p =
      ((s.setPort p { freed (s.port p) (deviceRate s p) with assembly := .discarding }).toldAbandoned e).serviceAt p := by
  have hfreed := State.applyRate_abandoned s p
  simp only [State.abandonTransmission, htx, hqueue, hfreed]

/-- An entry that is no governor command tells the actuator unit nothing. -/
theorem State.told_other (s : State) {e : QEntry} (h : ∀ a node channel level, e ≠ .governor a node channel level) :
    s.toldComplete e = s ∧ s.toldAbandoned e = s := by
  cases e with
  | governor a node channel level => exact absurd rfl (h a node channel level)
  | relayed f => exact ⟨rfl, rfl⟩
  | reply f => exact ⟨rfl, rfl⟩
  | notice f => exact ⟨rfl, rfl⟩

/-- The one service of an end on a gallery port: left to the command that stands next when it is that service, and taken at
once otherwise (log 6). -/
theorem State.endService_eq (u : State) (g : Gallery) {pending : List Instr} (h : u.pending = pending) :
    Host.Outcome.next (u.endService g) =
      if pending.head? = some (.sendPendingService g) then (.next { u with owed := some g } : Host.Outcome State Fault Refusal)
      else exec (.sendPendingService g) { u with owed := some g } := by
  subst h
  unfold State.endService
  split <;> rfl

/-! ### Feedback supervision at a completion -/

/-- The edge that a change of a condition gives. -/
theorem State.edges_edgesOf (s : State) (src : Fin 324) (was now : Bool) :
    s.edges (edgesOf src was now) = if was = now then s else s.edge src (if now then .enter else .exit) := by
  cases was <;> cases now <;> simp

/-- A change of an actuator's state to one that is not FAULT ends a FAULT with its edge (R115). -/
theorem State.moveActuator_eq (s : State) (a : Fin 64) {d : ActDyn} (hd : d.state ≠ .fault) :
    s.moveActuator a d =
      if s.actuators[a].state = .fault then (s.setActuator a d).edge (sourceActuator a) .exit else s.setActuator a d := by
  have hnow : (d.state == .fault) = false := beq_eq_false_iff_ne.2 hd
  unfold State.moveActuator
  rw [State.edges_edgesOf, hnow]
  generalize s.actuators[a].state = was
  cases was <;> rfl

/-- R113: a completion starts the supervision of an actuator with feedback and a sent value. -/
theorem State.completionTold_supervised {s : State} {a : Fin 64} {r : ActRec} {f : FeedbackRec} {v : Int}
    (hr : s.tables.actuators[a] = some r) (hf : r.feedback = some f) (hv : s.actuators[a].sent = some v) :
    s.completionTold a =
      let u := s.setActuator a { s.actuators[a] with state := .await, timer := some f.timeout }
      if s.actuators[a].state = .fault then u.edge (sourceActuator a) .exit else u := by
  unfold State.completionTold
  simp only [hr, hf, hv]
  exact State.moveActuator_eq s a (by simp)

/-- R113: without feedback or without a sent value a completion starts nothing. -/
theorem State.completionTold_unsupervised {s : State} {a : Fin 64}
    (h : (s.tables.actuators[a].bind (·.feedback)) = none ∨ s.actuators[a].sent = none) : s.completionTold a = s := by
  unfold State.completionTold
  cases hr : s.tables.actuators[a] with
  | none => rfl
  | some r =>
    rw [hr] at h
    rcases h with h | h
    · have hf : r.feedback = none := h
      simp only [hf]
    · simp only [h]
      cases r.feedback <;> rfl

/-- Settles O6: the end frees the port, tells the actuator unit, and leaves one service. -/
theorem endsOfTransmissionServeOnce : Obligations.EndsOfTransmissionServeOnce := by
  intro s p
  refine ⟨fun h => ?_, ?_⟩
  · obtain ⟨hcomplete, habandon⟩ := State.endTransmission_none h
    rw [exec_transmissionComplete, exec_transmissionAbandon, hcomplete, habandon]
    exact ⟨rfl, rfl⟩
  intro n e rest htx hqueue done lost served
  have hserved : ∀ (g : Gallery) (u : State), u.pending = s.pending → .next (u.endService g) = served g u :=
    fun g u hu => State.endService_eq u g hu
  rw [exec_transmissionComplete, exec_transmissionAbandon, State.completeTransmission_head htx hqueue,
    State.abandonTransmission_head htx hqueue]
  refine ⟨fun hother => ?_, ?_⟩
  · rw [(State.told_other _ hother).1, (State.told_other _ hother).2]
    refine ⟨fun hb => ?_, fun g hg => ?_⟩
    · subst hb
      exact ⟨rfl, rfl⟩
    · subst hg
      rw [State.serviceAt_line, State.serviceAt_line]
      exact ⟨hserved g done rfl, hserved g lost rfl⟩
  · intro a node channel level g he hg
    subst he hg
    rw [State.serviceAt_line, State.serviceAt_line]
    refine ⟨hserved g (lost.setMark a true) rfl, ?_, fun hnone => ?_⟩
    · intro r f v hr hf hv u
      have htold : done.completionTold a = if s.actuators[a].state = .fault then u.edge (sourceActuator a) .exit else u :=
        State.completionTold_supervised (s := done) hr hf hv
      have hpending := (completionTold_issues done a).pending
      rw [htold] at hpending
      exact (congrArg (fun x : State => Host.Outcome.next (x.endService g)) htold).trans (hserved g _ hpending)
    · have htold : done.completionTold a = done := State.completionTold_unsupervised (s := done) hnone
      exact (congrArg (fun x : State => Host.Outcome.next (x.endService g)) htold).trans (hserved g done rfl)

end Sys2Proof.Machine
end

section
/-! The service of the SEND_PENDING marks (R12, R147) and the five cases of a governor command offer (R11, R112, R142). -/

namespace Sys2Proof.Machine

open Sys2Proof.Safety

/-! ### The mark that a service serves -/

/-- An actuator in use whose record names the gallery port carries a mark (R12). -/
def isMarkedAt (s : State) (g : Gallery) (a : Fin 64) : Bool := s.tables.actuators[a].any (·.port == g) && s.marks[a]

theorem isMarkedAt_of {s : State} {g : Gallery} {a : Fin 64} {r : ActRec} (hr : s.tables.actuators[a] = some r) (hport : r.port = g)
    (hmark : s.marks[a] = true) : isMarkedAt s g a = true := by
  unfold isMarkedAt
  rw [hr, hmark]
  simp [hport]

theorem not_isMarkedAt_of {s : State} {g : Gallery} {a : Fin 64}
    (h : ∀ r, s.tables.actuators[a] = some r → r.port = g → s.marks[a] = false) : isMarkedAt s g a = false := by
  unfold isMarkedAt
  cases hr : s.tables.actuators[a] with
  | none => rfl
  | some r =>
    by_cases hport : r.port = g
    · rw [h r hr hport, Bool.and_false]
    · simp [hport]

/-- A search in ascending index finds the lowest. -/
theorem find?_finRange_lowest {n : Nat} {p : Fin n → Bool} {a : Fin n} (ha : p a = true) (hlow : ∀ b, b < a → p b = false) :
    (List.finRange n).find? p = some a := by
  refine List.find?_eq_some_iff_getElem.2 ⟨ha, a.val, by rw [List.length_finRange]; exact a.isLt, ?_, fun j hj => ?_⟩
  · exact Fin.ext (by rw [List.getElem_finRange]; rfl)
  · rw [List.getElem_finRange, hlow _ hj]
    rfl

/-- A service searches the actuators in ascending index. -/
theorem markToServe_eq (s : State) (g : Gallery) : markToServe s g = (List.finRange 64).find? (isMarkedAt s g) := by
  unfold markToServe actuatorsWhere
  rw [List.find?_filter]
  congr 1
  funext a
  unfold isMarkedAt
  cases s.tables.actuators[a] with
  | none => simp
  | some r => simp only [Bool.decide_and, Bool.decide_eq_true, Option.any_some]

theorem State.serviceMarks_none {s : State} {g : Gallery} (h : ∀ a, isMarkedAt s.dropDeadMarks g a = false) :
    s.serviceMarks g = s.dropDeadMarks := by
  unfold State.serviceMarks
  rw [markToServe_eq, List.find?_eq_none.2 fun a _ => Bool.eq_false_iff.1 (h a)]

theorem State.serviceMarks_lowest {s : State} {g : Gallery} {a : Fin 64} (ha : isMarkedAt s.dropDeadMarks g a = true)
    (hlow : ∀ b < a, isMarkedAt s.dropDeadMarks g b = false) : s.serviceMarks g = s.dropDeadMarks.serveMark a := by
  unfold State.serviceMarks
  rw [markToServe_eq, find?_finRange_lowest ha hlow]

/-- Serving a mark offers the effective level of the moment (R147). -/
theorem State.serveMark_offers {s : State} {a : Fin 64} {r : ActRec} {v : Int} (hr : s.tables.actuators[a] = some r)
    (hv : effectiveLevel s a r = some v) : s.serveMark a = (s.setMark a false).offerGovernor a r v := by
  simp only [State.serveMark, hr, hv]

/-- Serving a mark offers nothing when V is none (R147). -/
theorem State.serveMark_noValue {s : State} {a : Fin 64} {r : ActRec} (hr : s.tables.actuators[a] = some r)
    (hv : effectiveLevel s a r = none) : s.serveMark a = s.setMark a false := by
  simp only [State.serveMark, hr, hv]

/-- Settles O12: the marks of unused actuators are dropped, and the search over the rest finds the lowest. -/
theorem sendPendingServesTheLowestMark : Obligations.SendPendingServesTheLowestMark := by
  intro s g
  rw [exec_sendPendingService]
  refine ⟨fun h => by rw [State.takeService_none s g h], fun howed => ?_⟩
  rw [State.takeService_owed s g howed]
  have hmarks : ∀ a : Fin 64, ({ s with owed := none } : State).dropDeadMarks.marks[a] =
      (s.marks[a] && s.tables.actuators[a].isSome) := State.dropDeadMarks_mark _
  have hunmarked : ∀ b : Fin 64, (∀ x, s.tables.actuators[b] = some x → x.port = g → s.marks[b] = false) →
      isMarkedAt ({ s with owed := none } : State).dropDeadMarks g b = false := fun b hb =>
    not_isMarkedAt_of fun x hx hport => by rw [hmarks, hb x hx hport, Bool.false_and]
  refine ⟨_, hmarks, fun hnone => ?_, ?_⟩
  · rw [State.serviceMarks_none fun b => hunmarked b fun x hx hport => hnone b x hx hport]
    rfl
  · intro a r hr hport hmark hlow t
    have ha : isMarkedAt ({ s with owed := none } : State).dropDeadMarks g a = true :=
      isMarkedAt_of hr hport (by rw [hmarks, hmark, hr]; rfl)
    rw [State.serviceMarks_lowest ha fun b hb => hunmarked b fun x hx => hlow b x hb hx]
    exact ⟨fun v hv => congrArg _ (State.serveMark_offers hr hv), fun hv => congrArg _ (State.serveMark_noValue hr hv)⟩

/-! ### Governor command offers (R11) -/

/-- A command that counts as queued, in the terms of the statements (R112, R142). -/
theorem State.countQueued_eq (s : State) (a : Fin 64) (r : ActRec) (v : Int) : s.countQueued a r v = queuedAt s a r v := by
  unfold State.countQueued queuedAt
  have htest : (!r.kind.isLight && s.actuators[a].sent != some v) = true ↔
      r.kind.isLight = false ∧ s.actuators[a].sent ≠ some v := by simp
  dsimp only
  by_cases h : r.kind.isLight = false ∧ s.actuators[a].sent ≠ some v
  · rw [if_pos (htest.2 h), if_pos h]
    rfl
  · rw [if_neg (fun x => h (htest.1 x)), if_neg h]
    rfl

theorem waiting_eq_drop (q : PortState) : q.waiting = q.queue.drop (sendingCount q) := by
  unfold PortState.waiting sendingCount
  split <;> rfl

theorem sending_eq_take (q : PortState) : q.sending = q.queue.take (sendingCount q) := by
  unfold PortState.sending sendingCount
  split <;> rfl

/-- A queue whose first part is as long as what is in transmission is parted there (R6). -/
theorem sending_waiting_of_append {q : PortState} {sending rest : List QEntry} (h : q.queue = sending ++ rest)
    (hlen : sending.length = sendingCount q) : q.sending = sending ∧ q.waiting = rest := by
  rw [sending_eq_take, waiting_eq_drop, h, ← hlen]
  exact ⟨List.take_left, List.drop_left⟩

/-- No GOVERNOR entry for `a` stands in a list. -/
theorem any_isGovernor_eq_false {l : List QEntry} {a : Fin 64} (h : ∀ x ∈ l, x.isGovernor a = false) :
    l.any (·.isGovernor a) = false := by
  simpa using h

theorem withLevel_of_not_isGovernor {e : QEntry} {a : Fin 64} (h : e.isGovernor a = false) (v : Int) : e.withLevel a v = e := by
  cases e with
  | governor b node channel level =>
    have hb : b ≠ a := by simpa [QEntry.isGovernor] using h
    simp [hb]
  | relayed f => rfl
  | reply f => rfl
  | notice f => rfl

theorem map_withLevel_of_none {l : List QEntry} {a : Fin 64} (h : ∀ x ∈ l, x.isGovernor a = false) (v : Int) :
    l.map (·.withLevel a v) = l :=
  (List.map_congr_left fun x hx => withLevel_of_not_isGovernor (h x hx) v).trans (List.map_id l)

/-- Without an entry for `a` nothing in transmission or waiting is one. -/
theorem none_isGovernor_parts {q : PortState} {a : Fin 64} (h : ∀ x ∈ q.queue, x.isGovernor a = false) :
    q.waiting.any (·.isGovernor a) = false ∧ q.sending.any (·.isGovernor a) = false := by
  rw [waiting_eq_drop, sending_eq_take]
  exact ⟨any_isGovernor_eq_false fun x hx => h x (List.mem_of_mem_drop hx),
    any_isGovernor_eq_false fun x hx => h x (List.mem_of_mem_take hx)⟩

/-- R11, first case: a waiting entry for `a` takes the level. -/
theorem State.offerGovernor_waiting {s : State} {a : Fin 64} {r : ActRec} (v : Int)
    (h : (s.port r.port.line).waiting.any (·.isGovernor a) = true) :
    s.offerGovernor a r v = queuedAt (s.setPort r.port.line { s.port r.port.line with
      queue := (s.port r.port.line).sending ++ (s.port r.port.line).waiting.map (·.withLevel a v) }) a r v := by
  unfold State.offerGovernor
  dsimp only
  rw [if_pos h, State.countQueued_eq]

/-- R11, second case: the entry for `a` is in transmission. -/
theorem State.offerGovernor_sending {s : State} {a : Fin 64} {r : ActRec} (v : Int)
    (hw : (s.port r.port.line).waiting.any (·.isGovernor a) = false)
    (hs : (s.port r.port.line).sending.any (·.isGovernor a) = true) : s.offerGovernor a r v = s.setMark a true := by
  unfold State.offerGovernor
  dsimp only
  rw [if_neg (by simp [hw]), if_pos hs]

section NoEntry

variable {s : State} {a : Fin 64} {r : ActRec} (v : Int) (hnone : ∀ x ∈ (s.port r.port.line).queue, x.isGovernor a = false)
include hnone

/-- R11, third case: no entry for `a`, and room. -/
theorem State.offerGovernor_room (hroom : (s.port r.port.line).queue.length < capacity r.port.line) :
    s.offerGovernor a r v = queuedAt ((s.setPort r.port.line { s.port r.port.line with
      queue := (s.port r.port.line).queue ++ [.governor a r.node r.channel v] }).setMark a false) a r v := by
  obtain ⟨hw, hs⟩ := none_isGovernor_parts hnone
  unfold State.offerGovernor
  dsimp only
  rw [if_neg (by simp [hw]), if_neg (by simp [hs]), if_pos hroom, State.countQueued_eq]

/-- R11, fourth case: at a full queue the oldest waiting RELAYED entry leaves. -/
theorem State.offerGovernor_displaces (hfull : capacity r.port.line ≤ (s.port r.port.line).queue.length)
    (hrelayed : (s.port r.port.line).waiting.any (·.isRelayed) = true) :
    s.offerGovernor a r v = queuedAt ((s.setPort r.port.line { s.port r.port.line with
      queue := (s.port r.port.line).sending ++ (s.port r.port.line).waiting.eraseP (·.isRelayed) ++
        [.governor a r.node r.channel v] }).setMark a false) a r v := by
  obtain ⟨hw, hs⟩ := none_isGovernor_parts hnone
  unfold State.offerGovernor
  dsimp only
  rw [if_neg (by simp [hw]), if_neg (by simp [hs]), if_neg (Nat.not_lt.2 hfull), if_pos hrelayed, State.countQueued_eq]

/-- R11, fifth case: at a full queue without a waiting RELAYED entry the actuator is marked. -/
theorem State.offerGovernor_full (hfull : capacity r.port.line ≤ (s.port r.port.line).queue.length)
    (hrelayed : (s.port r.port.line).waiting.any (·.isRelayed) = false) : s.offerGovernor a r v = s.setMark a true := by
  obtain ⟨hw, hs⟩ := none_isGovernor_parts hnone
  unfold State.offerGovernor
  dsimp only
  rw [if_neg (by simp [hw]), if_neg (by simp [hs]), if_neg (Nat.not_lt.2 hfull), if_neg (by simp [hrelayed])]

end NoEntry

/-- Settles O11: each case of the statement meets the premises of one case of the offer. -/
theorem governorOffersTakeTheFirstCase : Obligations.GovernorOffersTakeTheFirstCase := by
  intro s a r v p q none_
  refine ⟨?_, ?_, fun hnone hroom => State.offerGovernor_room v hnone hroom, fun hnone hfull => ⟨?_, fun hrelayed => ?_⟩⟩
  · intro sending pre post node channel level hqueue hlen hpre hpost
    obtain ⟨hs, hw⟩ : q.sending = sending ∧ q.waiting = pre ++ [.governor a node channel level] ++ post :=
      sending_waiting_of_append (by simpa using hqueue) hlen
    have hwaits : q.waiting.any (·.isGovernor a) = true := by simp [hw, QEntry.isGovernor]
    have hlevel : q.sending ++ q.waiting.map (·.withLevel a v) = sending ++ pre ++ [.governor a node channel v] ++ post := by
      simp [hs, hw, map_withLevel_of_none hpre, map_withLevel_of_none hpost]
    rw [State.offerGovernor_waiting v hwaits, hlevel]
  · intro node channel level rest htx hqueue hrest
    have hcount : sendingCount q = 1 := by simp [sendingCount, Option.isSome_iff_ne_none, htx]
    obtain ⟨hs, hw⟩ : q.sending = [.governor a node channel level] ∧ q.waiting = rest :=
      sending_waiting_of_append hqueue hcount.symm
    refine State.offerGovernor_sending v ?_ ?_
    · exact hw ▸ any_isGovernor_eq_false hrest
    · change q.sending.any (·.isGovernor a) = true
      simp [hs, QEntry.isGovernor]
  · intro sending pre post frame hqueue hlen hpre
    obtain ⟨hs, hw⟩ : q.sending = sending ∧ q.waiting = pre ++ [.relayed frame] ++ post :=
      sending_waiting_of_append (by simpa using hqueue) hlen
    have hrelayed : q.waiting.any (·.isRelayed) = true := by simp [hw, QEntry.isRelayed]
    have herase : q.waiting.eraseP (·.isRelayed) = pre ++ post := by
      rw [hw, List.append_assoc, List.eraseP_append_right _ (by simpa using hpre)]
      rfl
    have hleft : q.sending ++ q.waiting.eraseP (·.isRelayed) ++ [.governor a r.node r.channel v] =
        sending ++ pre ++ post ++ [.governor a r.node r.channel v] := by
      simp [hs, herase]
    rw [State.offerGovernor_displaces v hnone hfull hrelayed, hleft]
  · refine State.offerGovernor_full v hnone hfull ?_
    rw [waiting_eq_drop]
    simpa using hrelayed

end Sys2Proof.Machine
end

section
/-! Whole frames (R1 to R5, R10): the bytes of a frame come in one by one, and the frame is dropped, relayed, or handed on and
relayed. -/

namespace Sys2Proof.Machine

open Sys2Proof.Safety

/-! ### The bytes of a frame one by one -/

@[simp] theorem State.setAssembly_setAssembly (s : State) (p : Port) (x y : Assembly) :
    (s.setAssembly p x).setAssembly p y = s.setAssembly p y := by
  unfold State.setAssembly
  rw [State.setPort_setPort, State.port_setPort]

@[simp] theorem State.setAssembly_assembly (s : State) (p : Port) (x : Assembly) : ((s.setAssembly p x).port p).assembly = x := by
  simp [State.setAssembly]

@[simp] theorem State.setAssembly_tx (s : State) (p : Port) (x : Assembly) : ((s.setAssembly p x).port p).tx = (s.port p).tx := by
  simp [State.setAssembly]

/-- Outside a transmission and with no service owed, a byte goes to the assembly. -/
theorem State.takeByte_gather {s : State} {p : Port} (howed : s.owed = none) (htx : (s.port p).tx = none) (b : Byte) :
    s.settled.takeByte p b = s.gather p b := by
  rw [State.settled_none s howed, State.takeByte_receiving htx]

/-- The rest of a frame whose every proper beginning asks for more bytes. -/
theorem State.foldl_gather_frame {s : State} {p : Port} (howed : s.owed = none) (htx : (s.port p).tx = none) {frame : List Byte}
    (hmore : ∀ x y, x ++ y = frame → y ≠ [] → gathered x = .more) (hwhole : gathered frame = .whole) :
    ∀ rest gone : List Byte, gone ++ rest = frame → rest ≠ [] →
      rest.foldl (fun s b => s.settled.takeByte p b) (s.setAssembly p (.assembling gone)) =
        (s.setAssembly p .idle).complete p frame := by
  intro rest
  induction rest with
  | nil => exact fun _ _ h => absurd rfl h
  | cons b rest ih =>
    intro gone hframe _
    have htaken : (s.setAssembly p (.assembling gone)).settled.takeByte p b =
        (s.setAssembly p (.assembling gone)).gather p b :=
      State.takeByte_gather (s := s.setAssembly p (.assembling gone)) howed (by simpa using htx) b
    have hasm := State.setAssembly_assembly s p (.assembling gone)
    rw [List.foldl_cons, htaken]
    cases rest with
    | nil =>
      rw [State.gather_whole hasm (hframe ▸ hwhole), State.setAssembly_setAssembly, hframe]
      rfl
    | cons c rest =>
      have hmore' : gathered (gone ++ [b]) = .more := hmore _ (c :: rest) (by simpa using hframe) (by simp)
      rw [State.gather_more hasm hmore', State.setAssembly_setAssembly]
      exact ih (gone ++ [b]) (by simpa using hframe) (by simp)

/-- What the shape of a frame says of its length (13.1). -/
theorem frameShape_iff (frame : List Byte) :
    frameShape frame = true ↔ frame.length ≤ 72 ∧ frame.headD 0 = startByte ∧ frame.length = 8 + frameLength frame := by
  simp [frameShape, frameLength, nat8At, byteAt, startByte, and_assoc]

/-- A byte of a beginning is the byte of the whole. -/
theorem byteAt_append_left {x y : List Byte} {i : Nat} (h : i < x.length) : byteAt (x ++ y) i = byteAt x i := by
  unfold byteAt
  rw [List.getD_eq_getElem?_getD, List.getD_eq_getElem?_getD, List.getElem?_append_left h]

/-- A byte beyond a beginning is a byte of the rest. -/
theorem byteAt_append_right {x y : List Byte} {i : Nat} (h : x.length ≤ i) : byteAt (x ++ y) i = byteAt y (i - x.length) := by
  unfold byteAt
  rw [List.getD_eq_getElem?_getD, List.getD_eq_getElem?_getD, List.getElem?_append_right h]

section Shape

variable {frame : List Byte} {k : FrameKind} (hshape : frameShape frame = true) (hkind : kindOfCode (byteAt frame 1) = some k)
include hshape hkind

theorem gathered_frame : gathered frame = .whole := by
  obtain ⟨hle, -, hlen⟩ := (frameShape_iff frame).1 hshape
  rw [gathered_good (by omega) (by omega) (by simp [hkind]), if_pos (Nat.le_of_eq hlen.symm)]

theorem gathered_beginning {x y : List Byte} (h : x ++ y = frame) (hy : y ≠ []) : gathered x = .more := by
  obtain ⟨hle, -, hlen⟩ := (frameShape_iff frame).1 hshape
  have hpos := List.length_pos_iff.2 hy
  by_cases hshort : x.length < 6
  · exact gathered_short hshort
  · have hsum : frame.length = x.length + y.length := by rw [← h, List.length_append]
    have hlength : frameLength frame = frameLength x := by
      rw [← h]
      exact congrArg BitVec.toNat (byteAt_append_left (by omega))
    have hbyte : byteAt frame 1 = byteAt x 1 := by
      rw [← h]
      exact byteAt_append_left (by omega)
    rw [hbyte] at hkind
    rw [gathered_good (by omega) (by omega) (by simp [hkind]), if_neg (by omega)]

end Shape

/-- R1: the bytes of a whole frame come to the check of R2. -/
theorem exec_frameArrival_of_arrives {s : State} {p : Port} {bytes : List Byte} {k : FrameKind} (h : arrives s p bytes k) :
    exec (.frameArrival p bytes) s = .next ((heard s p).complete p bytes) := by
  obtain ⟨howed, htx, hidle, hshape, hkind⟩ := h
  obtain ⟨-, hhead, hlen⟩ := (frameShape_iff bytes).1 hshape
  have hheard : s.setAssembly p .idle = heard s p := by
    unfold State.setAssembly heard
    rw [← hidle]
  rw [exec_frameArrival]
  match bytes, hhead, hlen with
  | b :: c :: rest, hhead, _ =>
    have hb : b = startByte := hhead
    rw [List.foldl_cons, State.takeByte_gather howed htx, State.gather_idle hidle, if_pos hb, ← hheard,
      State.foldl_gather_frame howed htx (fun x y => gathered_beginning hshape hkind) (gathered_frame hshape hkind) (c :: rest) [b]
        rfl (by simp)]
  | [b], _, hlen => simp at hlen; omega
  | [], _, hlen => simp at hlen; omega

/-! ### The check and the dispatch -/

theorem State.complete_notGood {s : State} {p : Port} {frame : List Byte} (h : frameGood frame = false) :
    s.complete p frame = s := by
  unfold State.complete
  rw [h]
  rfl

theorem State.complete_manage {s : State} {p : Port} {frame : List Byte} (h : frameGood frame = true)
    (hkind : kindOfCode (byteAt frame 1) = some .manage) : s.complete p frame = s.manageFrame p frame := by
  unfold State.complete
  rw [if_pos h, hkind]

theorem State.complete_classified {s : State} {p : Port} {frame : List Byte} {k : FrameKind} (h : frameGood frame = true)
    (hkind : kindOfCode (byteAt frame 1) = some k) (hk : k ≠ .manage) :
    s.complete p frame = s.act k p frame (classify s.tables k p frame) := by
  unfold State.complete
  rw [if_pos h, hkind]
  cases k with
  | manage => exact absurd rfl hk
  | _ => rfl

/-- R5: the relay, in the terms of the statements. -/
theorem State.relay_eq (s : State) (p : Port) (frame : List Byte) : s.relay p frame = relayed s p frame := by
  cases p with
  | b =>
    unfold State.relay
    rw [State.offer_eq, State.offer_eq]
    rfl
  | g1 => exact State.offer_eq _ _ _
  | g2 => exact State.offer_eq _ _ _

theorem State.manageFrame_other {s : State} {frame : List Byte} (h : frameNode frame ≠ s.tables.device.ownNode) (p : Port) :
    s.manageFrame p frame = relayed s p frame := by
  unfold State.manageFrame
  rw [if_neg h, State.relay_eq]

theorem State.manageFrame_gallery {s : State} {p : Port} {frame : List Byte} (h : frameNode frame = s.tables.device.ownNode)
    (hp : p ≠ .b) : s.manageFrame p frame = s := by
  unfold State.manageFrame
  rw [if_pos h, if_neg hp]

theorem State.manageFrame_request {s : State} {frame : List Byte} (h : frameNode frame = s.tables.device.ownNode) :
    s.manageFrame .b frame = s.respond (frameChannel frame) (framePayload frame) := by
  unfold State.manageFrame
  rw [if_pos h, if_pos rfl]

/-- Two items have two orders. -/
theorem inFreeOrder_pair {α : Type} (f : State → α → State) (x y : α) (s : State) :
    ∃ n, inFreeOrder f [x, y] s = f (f { s with free := n } x) y ∨ inFreeOrder f [x, y] s = f (f { s with free := n } y) x := by
  refine ⟨s.free + 1, ?_⟩
  unfold inFreeOrder
  rcases Nat.mod_two_eq_zero_or_one (Config.freeChoice s.free) with h | h
  · exact .inl (by simp [shuffle, h, Nat.mod_one])
  · exact .inr (by simp [shuffle, h, Nat.mod_one])

/-- R4: a used frame is handed on and relayed, in one order or the other. -/
theorem State.useAndRelay_orders (s : State) (p : Port) (frame : List Byte) (hand : State → State) :
    ∃ n, s.useAndRelay p frame hand = relayed (hand { s with free := n }) p frame ∨
      s.useAndRelay p frame hand = hand (relayed { s with free := n } p frame) := by
  obtain ⟨n, h⟩ := inFreeOrder_pair (fun s (u : UsePart) => match u with
    | .hand => hand s
    | .relay => s.relay p frame) .hand .relay s
  refine ⟨n, ?_⟩
  rw [← State.relay_eq, ← State.relay_eq]
  exact h

/-! ### What a sample does to the queue of B and to the points -/

/-- Between two states nothing happens on line B. -/
def SameLineB (s t : State) : Prop := t.ports.b = s.ports.b

theorem sameLineB_chains : Chains SameLineB :=
  ⟨fun _ => rfl, fun h k => Eq.trans k h, fun _ _ => rfl⟩

theorem setPort_sameLineB (s : State) (g : Gallery) (q : PortState) : SameLineB s (s.setPort g.line q) := by cases g <;> rfl

theorem countQueued_sameLineB (s : State) (a : Fin 64) (r : ActRec) (v : Int) : SameLineB s (s.countQueued a r v) := by
  rw [State.countQueued_eq]
  rfl

/-- A governor command goes to a gallery port (R107). -/
theorem offerGovernor_sameLineB (s : State) (a : Fin 64) (r : ActRec) (v : Int) : SameLineB s (s.offerGovernor a r v) := by
  unfold State.offerGovernor
  dsimp only
  split
  · exact sameLineB_chains.trans (setPort_sameLineB s _ _) (countQueued_sameLineB _ _ _ _)
  · split
    · rfl
    · split
      · exact sameLineB_chains.trans (setPort_sameLineB s _ _) (countQueued_sameLineB _ _ _ _)
      · split
        · exact sameLineB_chains.trans (setPort_sameLineB s _ _) (countQueued_sameLineB _ _ _ _)
        · rfl

theorem reevaluate_sameLineB (s : State) (a : Fin 64) : SameLineB s (s.reevaluate a) := by
  unfold State.reevaluate
  split
  · rfl
  · split
    · split
      · rfl
      · split
        · exact offerGovernor_sameLineB _ _ _ _
        · rfl
    · rfl

theorem moveLoop_sameLineB (s : State) (a : Fin 64) (c : LoopCtx) : SameLineB s (s.moveLoop a c) := by
  unfold State.moveLoop
  split
  · rfl
  · exact reevaluate_sameLineB (s.setLoop a c) a

theorem loopSample_sameLineB (s : State) (m : Int) (a : Fin 64) : SameLineB s (s.loopSample m a) := by
  unfold State.loopSample
  split
  · split
    · rfl
    · split
      · exact moveLoop_sameLineB _ _ _
      · rfl
  all_goals rfl

theorem lightSample_sameLineB (s : State) (p : Fin 64) (m : Int) : SameLineB s (s.lightSample p m) := by
  unfold State.lightSample
  split
  · exact sameLineB_chains.foldl (fun s a => loopSample_sameLineB s m a) _ s
  · rfl

theorem lightDeparture_sameLineB (s : State) (p : Fin 64) : SameLineB s (s.lightDeparture p) :=
  sameLineB_chains.foldl (fun s a => (rfl : SameLineB s (s.setLoop a _))) _ s

/-- From `s` to `t` at most one frame joins the queue of B. -/
def AtMostOneOnB (s t : State) : Prop := ∃ l : List QEntry, l.length ≤ 1 ∧ t.ports.b.queue = s.ports.b.queue ++ l

theorem AtMostOneOnB.of_same {s t : State} (h : SameLineB s t) : AtMostOneOnB s t := 
  ⟨[], Nat.zero_le 1, by rw [h, List.append_nil]⟩

theorem AtMostOneOnB.after {s t u : State} (h : SameLineB s t) (k : AtMostOneOnB t u) : AtMostOneOnB s u := by
  obtain ⟨l, hl, heq⟩ := k
  exact ⟨l, hl, by rw [heq, h]⟩

theorem AtMostOneOnB.before {s t u : State} (h : AtMostOneOnB s t) (k : SameLineB t u) : AtMostOneOnB s u := by
  obtain ⟨l, hl, heq⟩ := h
  exact ⟨l, hl, by rw [k, heq]⟩

theorem offer_atMostOneOnB (s : State) (e : QEntry) : AtMostOneOnB s (s.offer .b e) := by
  unfold State.offer
  split
  · exact ⟨[e], Nat.le_refl 1, rfl⟩
  · exact .of_same rfl

theorem edge_atMostOneOnB (s : State) (src : Fin 324) (e : Edge) : AtMostOneOnB s (s.edge src e) := by
  unfold State.edge
  split
  · exact .after rfl (offer_atMostOneOnB _ _)
  · exact .of_same rfl

theorem moveMeas_atMostOneOnB (s : State) (p : Fin 64) (d : MeasDyn) : AtMostOneOnB s (s.moveMeas p d) := by
  unfold State.moveMeas
  dsimp only
  rw [State.edges_edgesOf]
  have hset : SameLineB s (if (s.points[p].isValid && !(PointDyn.meas d).isValid) = true then
      (s.setPoint p (.meas d)).lightDeparture p else s.setPoint p (.meas d)) := by
    split
    · exact lightDeparture_sameLineB (s.setPoint p (.meas d)) p
    · rfl
  split
  · exact .of_same hset
  · exact .after hset (edge_atMostOneOnB _ _ _)

/-- A sample puts at most one notice on B (R47). -/
theorem takeSample_atMostOneOnB (s : State) (p : Fin 64) (payload : List Byte) : AtMostOneOnB s (s.takeSample p payload) := by
  unfold State.takeSample
  split
  · split
    · split
      · dsimp only
        split
        · exact (moveMeas_atMostOneOnB _ _ _).before (lightSample_sameLineB _ _ _)
        · exact moveMeas_atMostOneOnB _ _ _
      · exact moveMeas_atMostOneOnB _ _ _
    · exact moveMeas_atMostOneOnB _ _ _
  · exact .of_same rfl

theorem moveMeas_points (s : State) (p : Fin 64) (d : MeasDyn) : (s.moveMeas p d).points = s.points.set p (.meas d) := by
  unfold State.moveMeas
  dsimp only
  rw [(edges_issues _ _).points]
  split
  · rw [(lightDeparture_governs _ _).points]
    rfl
  · rfl

/-- What a sample makes of the points rests on records and points alone. -/
theorem takeSample_points_congr {s t : State} (htables : t.tables = s.tables) (hpoints : t.points = s.points) (p : Fin 64)
    (payload : List Byte) : (t.takeSample p payload).points = (s.takeSample p payload).points := by
  unfold State.takeSample
  rw [htables, hpoints]
  split
  · split
    · split
      · dsimp only
        split
        · rw [(lightSample_governs _ _ _).points, (lightSample_governs _ _ _).points, moveMeas_points, moveMeas_points, hpoints]
        · rw [moveMeas_points, moveMeas_points, hpoints]
      · rw [moveMeas_points, moveMeas_points, hpoints]
    · rw [moveMeas_points, moveMeas_points, hpoints]
  · exact hpoints

/-! ### The outcomes of a frame -/

theorem relayed_issues (s : State) (p : Port) (frame : List Byte) : Issues s (relayed s p frame) :=
  State.relay_eq s p frame ▸ relay_issues s p frame

/-- With room in the queue of B a frame relayed from a gallery port stands in it. -/
theorem relayed_mem {s : State} {p : Port} (hp : p ≠ .b) (hroom : s.ports.b.queue.length < 32) (frame : List Byte) :
    QEntry.relayed frame ∈ (relayed s p frame).ports.b.queue := by
  cases p with
  | b => exact absurd rfl hp
  | g1 => simp [relayed, joined, hroom]
  | g2 => simp [relayed, joined, hroom]

theorem State.act_point (s : State) (k : FrameKind) (p : Port) (frame : List Byte) (q : Fin 64) (present : Bool) :
    s.act k p frame (.point q present) = s.useAndRelay p frame (fun s => s.handToPoint k q present frame) := rfl

theorem State.act_feedback (s : State) (p : Port) (frame : List Byte) (a : Fin 64) :
    s.act .feedback p frame (.actuator a) = s.useAndRelay p frame (fun s => s.takeFeedback a (framePayload frame)) := rfl

/-- R4: a SAMPLE frame from a gallery port joins the queue of B, with room for it and one notice, and its sample is taken. -/
theorem sampleFrame_taken {s : State} {p : Port} (hp : p ≠ .b) (hroom : s.ports.b.queue.length < 31) (frame : List Byte)
    (q : Fin 64) (payload : List Byte) :
    ∃ t, (heard s p).useAndRelay p frame (fun s => s.takeSample q payload) = t ∧ QEntry.relayed frame ∈ t.ports.b.queue ∧
      t.points = (s.takeSample q payload).points ∧ Acts s t := by
  obtain ⟨n, horder⟩ := State.useAndRelay_orders (heard s p) p frame (fun s => s.takeSample q payload)
  have hfree : Issues s { heard s p with free := n } := by constructor <;> rfl
  have hlineB : ({ heard s p with free := n } : State).ports.b = s.ports.b := by
    cases p with
    | b => exact absurd rfl hp
    | _ => rfl
  rcases horder with h | h
  · obtain ⟨l, hl, hqueue⟩ := takeSample_atMostOneOnB { heard s p with free := n } q payload
    refine ⟨_, h, relayed_mem hp ?_ frame, ?_, (hfree.acts.trans (takeSample_acts _ q payload)).trans (relayed_issues _ p frame).acts⟩
    · rw [hqueue, hlineB, List.length_append]
      omega
    · rw [(relayed_issues _ p frame).points]
      exact takeSample_points_congr hfree.tables hfree.points q payload
  · obtain ⟨l, -, hqueue⟩ := takeSample_atMostOneOnB (relayed { heard s p with free := n } p frame) q payload
    refine ⟨_, h, ?_, ?_, (hfree.trans (relayed_issues _ p frame)).acts.trans (takeSample_acts _ q payload)⟩
    · rw [hqueue]
      exact List.mem_append_left l (relayed_mem hp (by rw [hlineB]; omega) frame)
    · exact takeSample_points_congr (hfree.trans (relayed_issues _ p frame)).tables
        (hfree.trans (relayed_issues _ p frame)).points q payload

/-- Settles O7: the frame comes to the check of R2, and then goes by its kind and its classification. -/
theorem framesAreRelayedOrLeaveNoTrace : Obligations.FramesAreRelayedOrLeaveNoTrace := by
  intro s p bytes k harrives
  have hkind : kindOfCode (byteAt bytes 1) = some k := harrives.2.2.2.2
  rw [exec_frameArrival_of_arrives harrives]
  refine ⟨fun hbad => by rw [State.complete_notGood hbad], fun hgood => ?_⟩
  have hmanage : k = .manage → (heard s p).complete p bytes = (heard s p).manageFrame p bytes := fun hk =>
    State.complete_manage hgood (hk ▸ hkind)
  have hact : ∀ c, k ≠ .manage → classify s.tables k p bytes = c → (heard s p).complete p bytes = (heard s p).act k p bytes c :=
    fun c hk hc => hc ▸ State.complete_classified hgood hkind hk
  refine ⟨fun hk hnode => ?_, fun hk hnode hp => ?_, fun hk hc => ?_, fun hk hc => ?_, ?_⟩
  · rw [hmanage hk, State.manageFrame_other (s := heard s p) hnode]
  · rw [hmanage hk, State.manageFrame_gallery (s := heard s p) hnode hp]
  · rcases hc with hc | hc <;> rw [hact _ hk hc, ← State.relay_eq] <;> rfl
  · rw [hact _ hk hc]
    rfl
  · intro usedBy
    have hused : ∀ hand : State → State, (heard s p).complete p bytes = (heard s p).useAndRelay p bytes hand → usedBy hand := by
      intro hand h
      obtain ⟨n, horder⟩ := State.useAndRelay_orders (heard s p) p bytes hand
      refine ⟨n, ?_⟩
      rw [h]
      exact horder.imp (congrArg _) (congrArg _)
    refine ⟨fun q present hc => ⟨fun hk => ?_, fun hk => ?_⟩, fun a hk hc => ?_, fun hk hp hroom q present hc => ?_⟩
    · subst hk
      exact hused _ ((hact _ (by simp) hc).trans (State.act_point _ _ _ _ _ _))
    · subst hk
      exact hused _ ((hact _ (by simp) hc).trans (State.act_point _ _ _ _ _ _))
    · subst hk
      exact hused _ ((hact _ (by simp) hc).trans (State.act_feedback _ _ _ _))
    · subst hk
      obtain ⟨t, ht, hrest⟩ := sampleFrame_taken hp hroom bytes q (framePayload bytes)
      refine ⟨t, ?_, hrest⟩
      rw [hact _ (by simp) hc, ← ht]
      rfl

end Sys2Proof.Machine
end

section
/-! Built frames (13.1, R190), and a MANAGE frame as the request its payload spells (R3, R168, R169, R181). -/

namespace Sys2Proof.Machine

open Sys2Proof.Safety

/-! ### Built frames -/

/-- A two-byte field read back from its bytes. -/
theorem be16_bytes_append (w : Word) : (w.extractLsb' 8 8 ++ w.extractLsb' 0 8 : BitVec 16) = w := by
  ext i hi
  simp only [BitVec.getElem_append, BitVec.getElem_extractLsb']
  split
  · simp [← BitVec.getLsbD_eq_getElem]
  · rename_i h
    rw [show 8 + (i - 8) = i by omega, BitVec.getLsbD_eq_getElem]

/-- The bytes of a built frame, field by field (13.1). -/
theorem buildFrame_eq (k : FrameKind) (node : Word) (channel : Byte) (payload : List Byte) :
    buildFrame k node channel payload = startByte :: k.code :: node.extractLsb' 8 8 :: node.extractLsb' 0 8 :: channel ::
      BitVec.ofNat 8 payload.length :: (payload ++ be16 (crc (frameBody k node channel payload))) := by
  simp [buildFrame, frameBody, be16, num8]

theorem kindOfCode_code (k : FrameKind) : kindOfCode k.code = some k := by cases k <;> rfl

section Built

variable (k : FrameKind) (node : Word) (channel : Byte) {payload : List Byte}

theorem buildFrame_kind : kindOfCode (byteAt (buildFrame k node channel payload) 1) = some k := by
  rw [buildFrame_eq]
  exact kindOfCode_code k

theorem buildFrame_node : frameNode (buildFrame k node channel payload) = node := by
  rw [buildFrame_eq]
  exact be16_bytes_append node

theorem buildFrame_channel : frameChannel (buildFrame k node channel payload) = channel := by
  rw [buildFrame_eq]
  rfl

variable (hlen : payload.length ≤ 64)
include hlen

theorem buildFrame_length : frameLength (buildFrame k node channel payload) = payload.length := by
  rw [buildFrame_eq]
  change (BitVec.ofNat 8 payload.length).toNat = payload.length
  rw [BitVec.toNat_ofNat]
  omega

theorem buildFrame_payload : framePayload (buildFrame k node channel payload) = payload := by
  unfold framePayload
  rw [buildFrame_length k node channel hlen, buildFrame_eq]
  exact List.take_left

theorem buildFrame_shape : frameShape (buildFrame k node channel payload) = true := by
  rw [frameShape_iff, buildFrame_length k node channel hlen, buildFrame_eq]
  refine ⟨?_, rfl, ?_⟩
  · simp [be16]
    omega
  · simp [be16]
    omega

theorem buildFrame_good : frameGood (buildFrame k node channel payload) = true := by
  unfold frameGood
  rw [buildFrame_length k node channel hlen]
  have hbody : (frameBody k node channel payload).length = 5 + payload.length := by
    simp [frameBody, be16, num8]
    omega
  have htake : ((buildFrame k node channel payload).drop 1).take (5 + payload.length) = frameBody k node channel payload := by
    rw [← hbody]
    exact List.take_left
  have hcheck : wordAt (buildFrame k node channel payload) (6 + payload.length) = crc (frameBody k node channel payload) := by
    have hat : ∀ i, byteAt (buildFrame k node channel payload) (6 + payload.length + i) =
        byteAt (be16 (crc (frameBody k node channel payload))) i := by
      intro i
      rw [buildFrame_eq, show 6 + payload.length + i = (payload.length + i) + 6 by omega]
      exact (byteAt_append_right (Nat.le_add_right payload.length i)).trans (by rw [Nat.add_sub_cancel_left])
    unfold wordAt
    rw [hat 1, show 6 + payload.length = 6 + payload.length + 0 from rfl, hat 0]
    exact be16_bytes_append _
  rw [htake, hcheck]
  exact beq_self_eq_true _

end Built

/-! ### A MANAGE frame as a request -/

/-- A good MANAGE frame for the part on B is answered as the payload it carries. -/
theorem exec_frameArrival_manage {s : State} (channel : Byte) {payload : List Byte} (howed : s.owed = none)
    (htx : (s.port .b).tx = none) (hidle : (s.port .b).assembly = .idle) (hlen : payload.length ≤ 64) :
    exec (.frameArrival .b (buildFrame .manage s.tables.device.ownNode channel payload)) s =
      .next ((heard s .b).respond channel payload) := by
  have hnode := buildFrame_node .manage s.tables.device.ownNode channel (payload := payload)
  rw [exec_frameArrival_of_arrives (k := .manage) ⟨howed, htx, hidle, buildFrame_shape _ _ _ hlen, buildFrame_kind _ _ _⟩,
    State.complete_manage (buildFrame_good _ _ _ hlen) (buildFrame_kind _ _ _),
    State.manageFrame_request (s := heard s .b) hnode, buildFrame_channel, buildFrame_payload _ _ _ hlen]

/-- A payload with a name and a tag is a request (R169). -/
theorem State.respond_request (s : State) (channel name : Byte) (tag : Word) (params : List Byte) :
    s.respond channel ([name] ++ be16 tag ++ params) = s.onRequest name ⟨channel, tag, params⟩ := by
  have hword : wordAt ([name] ++ be16 tag ++ params) 1 = tag := be16_bytes_append tag
  unfold State.respond
  rw [if_neg (by simp [be16]), hword]
  rfl

/-- A request name is the byte of its code (13.2). -/
theorem byte_eq_ofNat {b : Byte} {n : Nat} (h : b.toNat = n) : b = BitVec.ofNat 8 n := by
  rw [← h, BitVec.ofNat_toNat, BitVec.setWidth_eq]

/-- RESET reads its first parameter byte alone (R181). -/
theorem State.onReset_of_head (s : State) {r : Request} {b : Byte} (h : r.params.head? = some b) :
    s.onReset r = s.onReset ⟨r.channel, r.tag, [b]⟩ := by
  obtain ⟨channel, tag, params⟩ := r
  obtain ⟨rest, hparams⟩ := List.head?_eq_some_iff.1 h
  subst hparams
  rfl

/-- The command of a request name runs the request of that name (log 6). -/
theorem exec_requestCommand {name : Byte} {r : Request} {c : Instr} (h : requestCommand name r = some c) (s : State) :
    exec c s = .next (s.onRequest name r) := by
  unfold requestCommand at h
  split at h
  case h_19 hname =>
    obtain rfl := byte_eq_ofNat hname
    show exec c s = .next (s.onReset r)
    split at h
    · rw [State.onReset_of_head s ‹_›]
      cases h
      rfl
    · split at h
      · rw [State.onReset_of_head s ‹_›]
        cases h
        rfl
      · cases h
  case h_20 => cases h
  all_goals
    rename_i hname
    obtain rfl := byte_eq_ofNat hname
    cases h
    rfl

/-- What refuses a RESET whose parameter is neither of its two values (R181). -/
theorem resetRefusal_other (s : State) {params : List Byte} (h1 : params.head? ≠ some 0x01) (h2 : params.head? ≠ some 0x02) :
    resetRefusal s params = some (if s.save ≠ none then .busy else if params = [] then .malformed else .outOfRange) := by
  unfold resetRefusal
  cases hsave : s.save with
  | some x => simp
  | none =>
    cases params with
    | nil => simp
    | cons b rest =>
      have hb : ¬ (nat8At (b :: rest) 0 = 1 ∨ nat8At (b :: rest) 0 = 2) := by
        rintro (h | h)
        · exact h1 (congrArg some (BitVec.eq_of_toNat_eq h))
        · exact h2 (congrArg some (BitVec.eq_of_toNat_eq h))
      simp [hb]

/-- Settles O8: the frame is answered as its payload, and the payload spells a name, a tag and parameters or nothing. -/
theorem requestFrameRunsItsRequest : Obligations.RequestFrameRunsItsRequest := by
  intro s channel payload howed htx hidle hlen frame u
  have harrived : exec (.frameArrival .b frame) s = .next (u.respond channel payload) :=
    exec_frameArrival_manage channel howed htx hidle hlen
  rw [harrived]
  refine ⟨fun name tag params c hpayload hc => ?_, fun _ => by rw [exec_unknownRequest], ?_⟩
  · rw [hpayload, State.respond_request, exec_requestCommand hc]
  · intro tag params hpayload h1 h2
    have hreset : u.respond channel payload = u.onReset ⟨channel, tag, params⟩ := by
      rw [hpayload, State.respond_request]
      rfl
    rw [hreset]
    unfold State.onReset
    refine ⟨fun hres => ?_, fun hserving => ?_⟩
    · rw [if_pos (show u.resetting.isSome = true from Option.isSome_iff_ne_none.2 hres)]
    · rw [if_neg (show ¬ u.resetting.isSome = true by simp [show u.resetting = none from hserving]), resetRefusal_other u h1 h2]
      exact congrArg _ (State.replied_eq u u 0x60 ⟨channel, tag, params⟩ _ [])

end Sys2Proof.Machine
end

section
/-! Edges (R176, R177): what delivering them changes, and that each enabled edge leaves its source pending. Then the beginning
and the completion of a reset (R14, R180, R181, R187 to R189). -/

namespace Sys2Proof.Safety

open Sys2Proof.Machine

/-! ### Free orders -/

/-- Every item stands in every order. -/
theorem mem_shuffle {α : Type} {x : α} : ∀ {fuel : Nat} (code : Nat) {l : List α}, l.length ≤ fuel → x ∈ l → x ∈ shuffle code l fuel := by
  intro fuel
  induction fuel with
  | zero =>
    intro code l hlen hx
    simp [List.length_eq_zero_iff.1 (Nat.le_zero.1 hlen)] at hx
  | succ fuel ih =>
    intro code l hlen hx
    cases l with
    | nil => simp at hx
    | cons y ys =>
      have hindex : code % (ys.length + 1) < (y :: ys).length := Nat.mod_lt _ (Nat.succ_pos _)
      have herase := List.length_eraseIdx_of_lt hindex
      unfold shuffle
      rw [List.getD_eq_getElem?_getD, List.getElem?_eq_getElem hindex, Option.getD_some]
      by_cases hhead : x = (y :: ys)[code % (ys.length + 1)]
      · exact hhead ▸ List.mem_cons_self
      · refine List.mem_cons_of_mem _ (ih _ (by simp at herase hlen ⊢; omega) ?_)
        exact (List.mem_eraseIdx_iff_getElem.2 (by
          obtain ⟨i, hi, hxi⟩ := List.getElem_of_mem hx
          exact ⟨i, hi, fun hne => hhead (by subst hne; exact hxi.symm), hxi⟩))

/-- Folding establishes what one of the items establishes and every item keeps. -/
theorem foldl_establishes {α : Type} {Q : State → Prop} {f : State → α → State} {x : α} (hkeep : ∀ s y, Q s → Q (f s y))
    (hx : ∀ s, Q (f s x)) : ∀ {l : List α} (s : State), x ∈ l → Q (l.foldl f s) := by
  have hkeeps : ∀ (l : List α) (s : State), Q s → Q (l.foldl f s) := by
    intro l
    induction l with
    | nil => exact fun _ h => h
    | cons y ys ih => exact fun s h => ih _ (hkeep s y h)
  intro l
  induction l with
  | nil => exact fun _ h => nomatch h
  | cons y ys ih =>
    intro s hmem
    rcases List.mem_cons.1 hmem with rfl | hmem
    · exact hkeeps ys _ (hx s)
    · exact ih _ hmem

/-- Taking items in a free order establishes what one of them establishes and every item keeps. -/
theorem inFreeOrder_establishes {α : Type} {Q : State → Prop} {f : State → α → State} {x : α} (hkeep : ∀ s y, Q s → Q (f s y))
    (hx : ∀ s, Q (f s x)) (l : List α) (s : State) (hmem : x ∈ l) : Q (inFreeOrder f l s) := by
  match l, hmem with
  | [y], hmem =>
    obtain rfl := List.mem_singleton.1 hmem
    exact hx s
  | y :: z :: rest, hmem => exact foldl_establishes hkeep hx _ (mem_shuffle _ (by simp) hmem)

/-! ### Edges -/

theorem mem_insertNotice {x y : Fin 324 × Edge} {l : List (Fin 324 × Edge)} : x ∈ insertNotice y l ↔ x = y ∨ x ∈ l := by
  induction l with
  | nil => simp [insertNotice]
  | cons z rest ih =>
    unfold insertNotice
    split
    · simp
    · rw [List.mem_cons, ih, List.mem_cons]
      exact or_left_comm

/-- From `s` to `t` nothing changes but the queue of B, the pending set, which keeps its pairs, and the free counter: what
delivering edges may touch (R177). -/
structure Notices (s t : State) : Prop where
  rest : ∃ (b : PortState) (noticed : List (Fin 324 × Edge)) (free : Nat),
    t = { s with ports := { s.ports with b }, noticed, free }
  kept : ∀ x ∈ s.noticed, x ∈ t.noticed

theorem notices_chains : Chains Notices where
  refl s := ⟨⟨s.ports.b, s.noticed, s.free, rfl⟩, fun _ h => h⟩
  trans h k := by
    obtain ⟨⟨b, noticed, free, rfl⟩, hkept⟩ := h
    obtain ⟨⟨b', noticed', free', rfl⟩, kkept⟩ := k
    exact ⟨⟨b', noticed', free', rfl⟩, fun x hx => kkept x (hkept x hx)⟩
  free s n := ⟨⟨s.ports.b, s.noticed, n, rfl⟩, fun _ h => h⟩

theorem edge_notices (s : State) (src : Fin 324) (e : Edge) : Notices s (s.edge src e) := by
  unfold State.edge
  split
  · rw [State.offer_eq]
    exact ⟨⟨_, _, _, rfl⟩, fun x hx => mem_insertNotice.2 (.inr hx)⟩
  · exact notices_chains.refl s

/-- The edges of one source among the edges of an event, in their order. -/
def edgesOfSource (es : List (Fin 324 × Edge)) (s : State) (src : Fin 324) : State :=
  (es.filter (·.1 == src)).foldl (fun s e => s.edge e.1 e.2) s

theorem edges_eq_inFreeOrder (s : State) (es : List (Fin 324 × Edge)) :
    s.edges es = inFreeOrder (edgesOfSource es) (es.map (·.1)).eraseDups s := rfl

theorem edgesOfSource_notices (es : List (Fin 324 × Edge)) (s : State) (src : Fin 324) : Notices s (edgesOfSource es s src) :=
  notices_chains.foldl (fun s (e : Fin 324 × Edge) => edge_notices s e.1 e.2) _ s

theorem edges_notices (s : State) (es : List (Fin 324 × Edge)) : Notices s (s.edges es) :=
  edges_eq_inFreeOrder s es ▸ notices_chains.inFreeOrder (edgesOfSource_notices es) _ s

/-- An edge told stays told, since nothing that delivers edges ends a notice. -/
theorem EdgeTold.after {s t : State} {src : Fin 324} {e : Edge} (h : EdgeTold s src e) (k : Notices s t) : EdgeTold t src e := by
  obtain ⟨⟨b, noticed, free, rfl⟩, hkept⟩ := k
  intro henabled
  obtain ⟨x, hx⟩ := h henabled
  exact ⟨x, hkept _ hx⟩

/-- R177: an enabled edge leaves its source pending. -/
theorem edge_told (s : State) (src : Fin 324) (e : Edge) : EdgeTold (s.edge src e) src e := by
  intro henabled
  rw [(edge_issues s src e).tables] at henabled
  by_cases hpending : isPending s src = true
  · obtain ⟨⟨src', x⟩, hx, hsrc⟩ := List.any_eq_true.1 hpending
    obtain rfl : src' = src := by simpa using hsrc
    exact ⟨x, (edge_notices s src' e).kept _ hx⟩
  · refine ⟨e, ?_⟩
    unfold State.edge
    rw [henabled, if_pos (by simpa using hpending), State.offer_eq]
    exact mem_insertNotice.2 (.inl rfl)

/-- Every edge of an event is told, whatever the order of the sources. -/
theorem edges_told (s : State) {es : List (Fin 324 × Edge)} {src : Fin 324} {e : Edge} (h : (src, e) ∈ es) :
    EdgeTold (s.edges es) src e := by
  rw [edges_eq_inFreeOrder]
  refine inFreeOrder_establishes (Q := fun t => EdgeTold t src e) (x := src) ?_ ?_ _ s ?_
  · exact fun t y ht => ht.after (edgesOfSource_notices es t y)
  · intro t
    refine foldl_establishes (Q := fun t => EdgeTold t src e) (x := (src, e)) ?_ ?_ t (by simpa using h)
    · exact fun t y ht => ht.after (edge_notices t y.1 y.2)
    · exact fun t => edge_told t src e
  · rw [List.mem_eraseDups]
    exact List.mem_map.2 ⟨_, h, rfl⟩

end Sys2Proof.Safety
end

section
/-! The beginning, the waiting and the completion of a reset (R14, R119, R180, R181, R184 to R189). -/

namespace Sys2Proof.Machine

open Sys2Proof.Safety

/-! ### Acceptance -/

/-- An accepted RESET: no reset in progress, no save in flight, and a parameter of the two (R170, R181). -/
theorem State.onReset_accepted {s : State} (hserving : serving s) (hsave : s.save = none) (channel : Byte) (tag : Word) :
    s.onReset ⟨channel, tag, [0x02]⟩ = s.beginHard ∧ s.onReset ⟨channel, tag, [0x01]⟩ = s.beginSoft := by
  have hres : s.resetting = none := hserving
  unfold State.onReset resetRefusal
  rw [hres, hsave]
  exact ⟨rfl, rfl⟩

/-- R187: on a free write path a hard reset starts its own checkpoint. -/
theorem State.beginHard_free {s : State} (h : s.store.write = .none) :
    s.beginHard = { s.enterReset .hardCheckpoint with
      store := { s.store with write := .checkpoint (ckptCopy s), due := false } } := by
  unfold State.beginHard
  rw [if_pos h]
  rfl

/-- R187: behind a write in progress a hard reset makes checkpoint due yes. -/
theorem State.beginHard_behind {s : State} (h : s.store.write ≠ .none) :
    s.beginHard = { s.enterReset .hardWait with store := { s.store with due := true } } := by
  have hbusy : ¬ ((s.enterReset .hardWait).store.write = .none ∧ (s.enterReset .hardWait).store.saveWaiting = false) :=
    fun hfree => h hfree.1
  unfold State.beginHard State.checkpointDue
  rw [if_neg h, if_neg hbusy]
  rfl

/-- R188: a soft reset waits for a write in progress. -/
theorem State.continueSoft_behind {s : State} (h : s.store.write ≠ .none) : s.continueSoft = s := if_neg h

/-- R188: a soft reset writes a checkpoint that is due. -/
theorem State.continueSoft_due {s : State} (h : s.store.write = .none) (hdue : s.store.due = true) :
    s.continueSoft = s.startCheckpoint := by
  unfold State.continueSoft
  rw [if_pos h, if_pos hdue]

/-- R188: with nothing to write a soft reset reloads. -/
theorem State.continueSoft_free {s : State} (h : s.store.write = .none) (hdue : s.store.due = false) :
    s.continueSoft = s.reload .soft := by
  unfold State.continueSoft
  rw [if_pos h, if_neg (by simp [hdue])]

theorem reload_resetting (s : State) (k : ResetKind) : (s.reload k).resetting = some (.reloaded k) :=
  (acts_chains.foldl take_acts s.held _).resetting

/-! ### The end of the write that a reset waits for -/

/-- R185, R186: STORE_FAULT after a checkpoint write. -/
theorem afterCheckpoint_fault (st : Store) (copy : Vector CkptData 128) (bad : List (Fin 128)) :
    (st.afterCheckpoint copy bad).fault = (st.imageFault || decide (bad ≠ [])) := by
  have hbad : (!bad.isEmpty) = decide (bad ≠ []) := by cases bad <;> rfl
  unfold Store.fault Store.afterCheckpoint
  rw [hbad]

theorem afterCheckpoint_write (st : Store) (copy : Vector CkptData 128) (bad : List (Fin 128)) :
    (st.afterCheckpoint copy bad).write = .none := rfl

theorem afterCheckpoint_due (st : Store) (copy : Vector CkptData 128) (bad : List (Fin 128)) :
    (st.afterCheckpoint copy bad).due = st.due := by
  unfold Store.afterCheckpoint
  rfl

theorem edgesOf_storeFault (was now : Bool) : edgesOf sourceStoreFault was now = faultEdge was now := by
  cases was <;> cases now <;> rfl

/-- Within a reset the end of a checkpoint write leaves the change of STORE_FAULT for the completion. -/
theorem State.endCheckpoint_resetting {s : State} {copy : Vector CkptData 128} (h : s.store.write = .checkpoint copy)
    (hres : s.resetting.isSome = true) (bad : List (Fin 128)) :
    s.endCheckpoint bad = ({ s with
      store := s.store.afterCheckpoint copy bad
      deferred := s.deferred ++
        faultEdge (s.store.imageFault || s.store.ckptFault) (s.store.imageFault || decide (bad ≠ [])) } : State).afterWrite := by
  unfold State.endCheckpoint State.moveStore State.edgesOrDefer
  simp only [h]
  rw [State.setStore_resetting, if_pos hres, afterCheckpoint_fault, edgesOf_storeFault]
  generalize s.store.afterCheckpoint copy bad = st
  rfl

/-- R187: a checkpoint that starts at the end of another copies the accounts as they stand. -/
theorem State.startCheckpoint_after (s : State) (st : Store) (deferred : List (Fin 324 × Edge)) :
    ({ s with store := st, deferred } : State).startCheckpoint =
      { s with store := { st with write := .checkpoint (ckptCopy s), due := false }, deferred } := by
  unfold State.startCheckpoint ckptCopy
  rfl

theorem State.afterWrite_hardWait {s : State} (h : s.resetting = some .hardWait) :
    s.afterWrite = { s.startCheckpoint with resetting := some .hardCheckpoint } := by
  unfold State.afterWrite
  rw [h]
  rfl

theorem State.afterWrite_softWait {s : State} (h : s.resetting = some .softWait) : s.afterWrite = s.continueSoft := by
  unfold State.afterWrite
  rw [h]

/-! ### Completion -/

/-- R189: the completion re-evaluates the lights in use and delivers the edges left and RESTARTED. -/
theorem State.completeReset_reloaded {s : State} {k : ResetKind} (h : s.resetting = some (.reloaded k)) :
    s.completeReset = ({ s.reevaluateAll (actuatorsWhere s (fun r => r.kind.isLight)) with
      deferred := [], resetting := none } : State).edges (s.deferred ++ [(sourceRestarted, .enter)]) := by
  unfold State.completeReset
  rw [h]

theorem State.completeReset_not {s : State} (h : ∀ k, s.resetting ≠ some (.reloaded k)) : s.completeReset = s := by
  unfold State.completeReset
  split
  · rename_i k hk
    exact absurd hk (h k)
  all_goals rfl

/-- What is offered to no actuator and leaves the rest, as the statements name it. -/
theorem notices_noOffer {s t : State} (h : Notices s t) : NoOffer s t := by
  obtain ⟨⟨b, noticed, free, rfl⟩, -⟩ := h
  exact ⟨rfl, rfl, rfl, rfl, rfl⟩

theorem notices_eq {s t : State} (h : Notices s t) : t = { s with ports := t.ports, noticed := t.noticed, free := t.free } := by
  obtain ⟨⟨b, noticed, free, rfl⟩, -⟩ := h
  rfl

/-- Nothing that a re-evaluation does reaches the pending set. -/
def SameNoticed (s t : State) : Prop := t.noticed = s.noticed

theorem sameNoticed_chains : Chains SameNoticed := ⟨fun _ => rfl, fun h k => Eq.trans k h, fun _ _ => rfl⟩

theorem offerGovernor_sameNoticed (s : State) (a : Fin 64) (r : ActRec) (v : Int) : SameNoticed s (s.offerGovernor a r v) := by
  unfold State.offerGovernor
  dsimp only
  rw [State.countQueued_eq, State.countQueued_eq, State.countQueued_eq]
  split
  · rfl
  · split
    · rfl
    · split
      · rfl
      · split <;> rfl

theorem reevaluate_sameNoticed (s : State) (a : Fin 64) : SameNoticed s (s.reevaluate a) := by
  unfold State.reevaluate
  split
  · rfl
  · split
    · split
      · rfl
      · split
        · exact offerGovernor_sameNoticed _ _ _ _
        · rfl
    · rfl

theorem reevaluateAll_noticed (s : State) (l : List (Fin 64)) : (s.reevaluateAll l).noticed = s.noticed :=
  sameNoticed_chains.foldl reevaluate_sameNoticed l s

/-- Settles O50: the acceptance by the write path, the awaited end by the kind of reset, the completion by its edges. -/
theorem resetsBeginAndComplete : Obligations.ResetsBeginAndComplete := by
  refine ⟨?_, fun s => ⟨?_, fun hnot => by rw [exec_resetComplete, State.completeReset_not hnot], fun k hk => ?_⟩⟩
  · intro s channel tag hserving hsave port d begun checkpoint
    obtain ⟨hhard, hsoft⟩ := State.onReset_accepted hserving hsave channel tag
    rw [exec_resetHard, exec_resetSoft, hhard, hsoft]
    refine ⟨fun hfree => ?_, fun hbusy => ⟨?_, ?_⟩, fun hfree hdue => ?_, fun hfree hdue => ⟨_, rfl, ?_⟩⟩
    · rw [State.beginHard_free hfree]
      rfl
    · rw [State.beginHard_behind hbusy]
      rfl
    · rw [State.beginSoft, State.continueSoft_behind (s := s.enterReset .softWait) hbusy]
      rfl
    · rw [State.beginSoft, State.continueSoft_due (s := s.enterReset .softWait) hfree hdue]
      rfl
    · rw [State.beginSoft, State.continueSoft_free (s := s.enterReset .softWait) hfree hdue]
      exact reload_resetting _ _
  · intro copy bad hwrite st next
    rw [exec_checkpointWriteEnd]
    refine ⟨fun hres => ?_, fun hres hdue => ?_⟩
    · rw [State.endCheckpoint_resetting hwrite (by simp [hres]), State.afterWrite_hardWait (by exact hres),
        State.startCheckpoint_after]
    · rw [State.endCheckpoint_resetting hwrite (by simp [hres]), State.afterWrite_softWait (by exact hres),
        State.continueSoft_due, State.startCheckpoint_after]
      · exact afterCheckpoint_write _ copy bad
      · exact (afterCheckpoint_due _ copy bad).trans hdue
  · rw [exec_resetComplete, State.completeReset_reloaded hk]
    refine ⟨_, rfl, ?_⟩
    intro u
    have hnotices := edges_notices u (s.deferred ++ [(sourceRestarted, .enter)])
    have hnoticed : u.noticed = s.noticed := reevaluateAll_noticed s _
    refine ⟨notices_noOffer hnotices, edges_told u (by simp [sourceRestarted]), fun x hx => hnotices.kept x (hnoticed ▸ hx),
      fun src e h => edges_told u (List.mem_append_left _ h), notices_eq hnotices, fun hnone => ?_⟩
    rw [hnone, List.nil_append, State.edges_singleton]
    rfl

end Sys2Proof.Machine
end

section
/-! A write of an ACTUATOR entry (R12, R106, R115, R129, R142, R150). -/

namespace Sys2Proof.Machine

open Sys2Proof.Safety

/-! ### What the write keeps and clears -/

/-- R106: the test of identity, in the terms of the statements. -/
theorem sameIdentity_iff (old new : Option ActRec) : sameIdentity old new = true ↔ keepsIdentity old new := by
  unfold keepsIdentity
  cases old with
  | none => simp [sameIdentity]
  | some x =>
    cases new with
    | none => simp [sameIdentity]
    | some y => simp [sameIdentity, ActRec.identity]

theorem actAfterWrite_cleared {d : ActDyn} {old new : Option ActRec} (h : ¬ keepsIdentity old new) :
    actAfterWrite d old new = ⟨none, none, none, .normal, none⟩ := by
  unfold actAfterWrite
  rw [if_neg (fun hsame => h ((sameIdentity_iff old new).1 hsame))]
  rfl

theorem actAfterWrite_kept {d : ActDyn} {old : Option ActRec} {y : ActRec} (h : keepsIdentity old (some y)) :
    actAfterWrite d old (some y) = if y.feedback ≠ none then d else ⟨d.requested, d.sent, none, .normal, none⟩ := by
  unfold actAfterWrite
  rw [if_pos ((sameIdentity_iff old (some y)).2 h)]
  cases hf : y.feedback <;> simp [hf]

/-- A write begins no FAULT (R115). -/
theorem actAfterWrite_fault {d : ActDyn} {old new : Option ActRec} (h : (actAfterWrite d old new).state = .fault) :
    d.state = .fault := by
  unfold actAfterWrite at h
  split at h
  · split at h
    · exact h
    · cases h
  · cases h

theorem isDark_iff (m : LightMode) : m.isDark = true ↔ m = .dark ∨ m = .closed := by cases m <;> simp [LightMode.isDark]

/-- R129: a loop whose object is PACING and whose zone is lit keeps its context. -/
theorem loopJoined_on {s : State} {o : Fin 128} {zone : Fin 16}
    (h : ¬ (s.accounts[o].state ≠ .pacing ∨ lightMode s zone = .dark ∨ lightMode s zone = .closed)) (c : LoopCtx) :
    loopJoined s o zone c = c := by
  rw [not_or, Decidable.not_not, ← isDark_iff, Bool.not_eq_true] at h
  exact if_pos h

/-- R129: a loop whose object is not PACING or whose zone is DARK or CLOSED stands at 0. -/
theorem loopJoined_off {s : State} {o : Fin 128} {zone : Fin 16}
    (h : s.accounts[o].state ≠ .pacing ∨ lightMode s zone = .dark ∨ lightMode s zone = .closed) (c : LoopCtx) :
    loopJoined s o zone c = { c with u := 0 } := by
  refine if_neg fun ⟨hpacing, hlit⟩ => ?_
  rw [← isDark_iff, hlit] at h
  exact h.elim (fun hne => hne hpacing) (fun hdark => nomatch hdark)

theorem loopAfterWrite_noSpot {s : State} {c : LoopCtx} {old new : Option ActRec} (h : spotFields new = none) :
    loopAfterWrite s c old new = ⟨0, none, false⟩ := by
  unfold loopAfterWrite
  rw [h]
  rfl

theorem loopAfterWrite_spot {s : State} {c : LoopCtx} {old new : Option ActRec} {o : Fin 128} {maxLevel : Nat} {zone : Fin 16}
    (h : spotFields new = some (o, maxLevel, zone)) :
    loopAfterWrite s c old new =
      loopJoined s o zone (if sameIdentity old new then ⟨min c.u (256 * maxLevel), none, false⟩ else .unused) := by
  unfold loopAfterWrite
  rw [h]

/-! ### The re-evaluation and the service at the write -/

theorem State.reevaluate_unused {s : State} {a : Fin 64} (h : s.tables.actuators[a] = none) : s.reevaluate a = s := by
  unfold State.reevaluate
  rw [h]

theorem State.reevaluate_setpoint {s : State} {a : Fin 64} {r : ActRec} (h : s.tables.actuators[a] = some r)
    (hkind : r.kind.isLight = false) : s.reevaluate a = s := by
  unfold State.reevaluate
  rw [h]
  simp [hkind]

theorem State.serveAtWrite_unused {s : State} {a : Fin 64} (h : s.tables.actuators[a] = none) : s.serveAtWrite a = s := by
  unfold State.serveAtWrite
  rw [h]

theorem State.serveAtWrite_leaves {s : State} {a : Fin 64} {r : ActRec} (h : s.tables.actuators[a] = some r)
    (hno : s.marks[a] = false ∨ (s.port r.port.line).queue ≠ []) : s.serveAtWrite a = s := by
  unfold State.serveAtWrite
  rw [h]
  refine if_neg fun hserve => ?_
  rw [Bool.and_eq_true, List.isEmpty_iff] at hserve
  exact hno.elim (fun hmark => by simp [hserve.1] at hmark) (fun hqueue => hqueue hserve.2)

theorem State.serveAtWrite_serves {s : State} {a : Fin 64} {r : ActRec} (h : s.tables.actuators[a] = some r)
    (hmark : s.marks[a] = true) (hqueue : (s.port r.port.line).queue = []) : s.serveAtWrite a = s.serveMark a := by
  unfold State.serveAtWrite
  rw [h]
  exact if_pos (by simp [hqueue]; exact hmark)

/-- An accepted ACTUATOR entry is written. -/
theorem State.writeEntry_actuator (s : State) (a : Fin 64) {bs : List Byte} {r : Option ActRec} (h : decodeActuator bs = .ok r) :
    s.writeEntry .actuator a.val bs = .ok (s.writeActuator a r) := by
  unfold State.writeEntry
  simp only [index?_eq_some a rfl, h]
  rfl

/-- The state of a write of an ACTUATOR entry with record, loop, step flag and dynamic state in place (R106, R129, R150). -/
def actuatorPlaced (s : State) (a : Fin 64) (r : Option ActRec) (c : LoopCtx) (flag : Bool) (d : ActDyn) : State :=
  { s with tables := { s.tables with actuators := s.tables.actuators.set a r }, loops := s.loops.set a c
           flags := s.flags.set a flag, actuators := s.actuators.set a d }

/-- R115: the edge of a FAULT that the write ends. -/
theorem writeActuator_told (t : State) (a : Fin 64) (x d : ActDyn) (hx : t.actuators[a] = x) (hfault : d.state = .fault → x.state = .fault) :
    t.moveActuator a d =
      if x.state = .fault ∧ d.state ≠ .fault then (t.setActuator a d).edge (sourceActuator a) .exit else t.setActuator a d := by
  unfold State.moveActuator
  rw [hx, State.edges_edgesOf]
  by_cases hd : d.state = .fault
  · rw [hd, hfault hd, if_pos rfl, if_neg (fun h => h.2 rfl)]
  · have hnow : (d.state == .fault) = false := beq_eq_false_iff_ne.2 hd
    by_cases hxs : x.state = .fault
    · rw [hnow, hxs, if_neg (by decide), if_neg Bool.false_ne_true, if_pos ⟨rfl, hd⟩]
    · have hwas : (x.state == .fault) = false := beq_eq_false_iff_ne.2 hxs
      rw [hnow, hwas, if_pos rfl, if_neg (fun h => hxs h.1)]

/-- The write in parts: what it places, the edge, the re-evaluation, and the service of a mark. -/
theorem State.writeActuator_eq (s : State) (a : Fin 64) (r : Option ActRec) {d : ActDyn} {c : LoopCtx} {flag : Bool}
    (hd : d = actAfterWrite s.actuators[a] s.tables.actuators[a] r)
    (hc : c = loopAfterWrite (s.setTables { s.tables with actuators := s.tables.actuators.set a r }) s.loops[a] s.tables.actuators[a] r)
    (hflag : flag = (s.flags[a] && sameIdentity s.tables.actuators[a] r)) :
    s.writeActuator a r =
      ((if s.actuators[a].state = .fault ∧ d.state ≠ .fault then
        (actuatorPlaced s a r c flag d).edge (sourceActuator a) .exit
        else actuatorPlaced s a r c flag d).reevaluate a).serveAtWrite a := by
  have hfault : d.state = .fault → s.actuators[a].state = .fault := fun h => actAfterWrite_fault (hd ▸ h)
  have htold := writeActuator_told
    (((s.setTables { s.tables with actuators := s.tables.actuators.set a r }).setLoop a c).setFlag a flag) a s.actuators[a] d rfl hfault
  unfold State.writeActuator
  dsimp only
  rw [← hd, ← hc, ← hflag, htold]
  rfl

/-- The loop that a write leaves at an index of a SPOT actuator (R129). -/
theorem loopAfterWrite_cases {s : State} {c : LoopCtx} {old new : Option ActRec} {o : Fin 128} {maxLevel : Nat} {zone : Fin 16}
    (h : spotFields new = some (o, maxLevel, zone)) :
    let off := s.accounts[o].state ≠ .pacing ∨ lightMode s zone = .dark ∨ lightMode s zone = .closed
    (keepsIdentity old new → ¬ off → loopAfterWrite s c old new = ⟨min c.u (256 * maxLevel), none, false⟩) ∧
      (¬ keepsIdentity old new ∨ off → loopAfterWrite s c old new = ⟨0, none, false⟩) := by
  intro off
  rw [loopAfterWrite_spot h]
  refine ⟨fun hkept hon => ?_, fun hzero => ?_⟩
  · rw [loopJoined_on hon, if_pos ((sameIdentity_iff old new).2 hkept)]
  · by_cases hoff : off
    · rw [loopJoined_off hoff]
      split <;> rfl
    · have hnot : ¬ sameIdentity old new = true := fun hsame =>
        hzero.elim (fun hkept => hkept ((sameIdentity_iff old new).1 hsame)) hoff
      rw [loopJoined_on hoff, if_neg hnot]
      rfl

/-- Settles O42: what the write places, and then the parts of `State.writeActuator_eq` one by one. -/
theorem actuatorWritesKeepOrClearTheActuator : Obligations.ActuatorWritesKeepOrClearTheActuator := by
  intro s a bs r hdecode kept x
  refine ⟨actAfterWrite x s.tables.actuators[a] r,
    loopAfterWrite (s.setTables { s.tables with actuators := s.tables.actuators.set a r }) s.loops[a] s.tables.actuators[a] r,
    s.flags[a] && sameIdentity s.tables.actuators[a] r, fun hkept => ⟨actAfterWrite_cleared hkept, ?_⟩, fun hkept => ⟨?_, ?_⟩,
    loopAfterWrite_noSpot, fun o maxLevel zone hspot => loopAfterWrite_cases hspot, ?_⟩
  · rw [Bool.eq_false_iff.2 (fun hsame => hkept ((sameIdentity_iff _ r).1 hsame)), Bool.and_false]
  · rw [(sameIdentity_iff _ r).2 hkept, Bool.and_true]
  · intro y hy
    subst hy
    rw [actAfterWrite_kept hkept]
    exact ⟨fun hf => if_pos hf, fun hf => if_neg (fun hne => hne hf)⟩
  · intro w told u
    have hwrite : s.writeEntry .actuator a.val bs = .ok (u.serveAtWrite a) := by
      rw [State.writeEntry_actuator s a hdecode, State.writeActuator_eq s a r rfl rfl rfl]
      rfl
    have htold : told.tables.actuators[a] = r := by
      have hw : w.tables.actuators[a] = r := by simp [w]
      by_cases hedge : x.state = .fault ∧ (actAfterWrite x s.tables.actuators[a] r).state ≠ .fault
      · simp only [told, if_pos hedge, (edge_issues w _ _).tables, hw]
      · simp only [told, if_neg hedge, hw]
    have hu : u.tables.actuators[a] = r := by rw [(reevaluate_issues told a).tables, htold]
    rw [hwrite]
    refine ⟨fun hno => ?_, fun hr => ?_, fun y hy => ⟨fun hleft => ?_, fun hmark hqueue => ?_⟩⟩
    · rcases hno with hr | ⟨y, hy, hkind⟩
      · exact State.reevaluate_unused (htold.trans hr)
      · exact State.reevaluate_setpoint (htold.trans hy) hkind
    · rw [State.serveAtWrite_unused (hu.trans hr)]
    · rw [State.serveAtWrite_leaves (hu.trans hy) hleft]
    · rw [State.serveAtWrite_serves (hu.trans hy) hmark hqueue]
      exact ⟨fun v hv => congrArg _ (State.serveMark_offers (hu.trans hy) hv),
        fun hv => congrArg _ (State.serveMark_noValue (hu.trans hy) hv)⟩

end Sys2Proof.Machine
end

section
/-! LOAD_ENTRY (R173, R13, R176): one entry is written, every other entry reads as before, and what refuses an entry. -/

namespace Sys2Proof.Machine

open Sys2Proof.Safety

/-! ### What refuses an entry -/

/-- A decoding that refuses does so with MALFORMED or OUT_OF_RANGE (R169, R191). -/
def RefusesPlainly {α : Type} (x : Except Status α) : Prop := ∀ st, x = .error st → st = .malformed ∨ st = .outOfRange

theorem refusesPlainly_ok {α : Type} (x : α) : RefusesPlainly (.ok x : Except Status α) := fun _ h => nomatch h

theorem refusesPlainly_malformed {α : Type} : RefusesPlainly (.error .malformed : Except Status α) := fun _ h => by
  cases h
  exact .inl rfl

theorem refusesPlainly_outOfRange {α : Type} : RefusesPlainly (.error .outOfRange : Except Status α) := fun _ h => by
  cases h
  exact .inr rfl

theorem refusesPlainly_checked {α : Type} (b : Bool) (x : α) : RefusesPlainly (checked b x) := by
  unfold checked
  split
  · exact refusesPlainly_ok x
  · exact refusesPlainly_outOfRange

/-- A decoding that first asks for its bytes. -/
theorem refusesPlainly_long {α : Type} {p : Prop} [Decidable p] {x : Except Status α} (h : RefusesPlainly x) :
    RefusesPlainly (if p then .error .malformed else x) := by
  split
  · exact refusesPlainly_malformed
  · exact h

theorem decodeDevice_refusesPlainly (bs : List Byte) : RefusesPlainly (decodeDevice bs) := by
  refine refusesPlainly_long ?_
  split
  · exact refusesPlainly_checked _ _
  · exact refusesPlainly_outOfRange

theorem decodeClass_refusesPlainly (bs : List Byte) : RefusesPlainly (decodeClass bs) := by
  refine refusesPlainly_long ?_
  split
  · exact refusesPlainly_ok _
  · split
    · exact refusesPlainly_checked _ _
    · exact refusesPlainly_outOfRange

theorem decodePoint_refusesPlainly (bs : List Byte) : RefusesPlainly (decodePoint bs) := by
  refine refusesPlainly_long ?_
  split
  · exact refusesPlainly_ok _
  · split
    · exact refusesPlainly_checked _ _
    · exact refusesPlainly_checked _ _
    · exact refusesPlainly_outOfRange
  · exact refusesPlainly_outOfRange

theorem decodeActuator_refusesPlainly (bs : List Byte) : RefusesPlainly (decodeActuator bs) := by
  refine refusesPlainly_long ?_
  split
  · exact refusesPlainly_ok _
  · split
    · exact refusesPlainly_ok _
    · exact refusesPlainly_outOfRange

theorem decodeObject_refusesPlainly (bs : List Byte) : RefusesPlainly (decodeObject bs) := by
  refine refusesPlainly_long ?_
  split
  · exact refusesPlainly_ok _
  · split
    · exact refusesPlainly_checked _ _
    · exact refusesPlainly_outOfRange

theorem decodeZone_refusesPlainly (bs : List Byte) : RefusesPlainly (decodeZone bs) := by
  refine refusesPlainly_long ?_
  split
  · exact refusesPlainly_ok _
  · exact refusesPlainly_checked _ _
  · exact refusesPlainly_outOfRange

theorem decodeWeek_refusesPlainly (bs : List Byte) : RefusesPlainly (decodeWeek bs) :=
  refusesPlainly_long (refusesPlainly_checked _ _)

theorem decodeHoliday_refusesPlainly (bs : List Byte) : RefusesPlainly (decodeHoliday bs) := by
  refine refusesPlainly_long ?_
  split
  · exact refusesPlainly_ok _
  · exact refusesPlainly_ok _
  · exact refusesPlainly_outOfRange

theorem decodeNotice_refusesPlainly (bs : List Byte) : RefusesPlainly (decodeNotice bs) :=
  refusesPlainly_long (refusesPlainly_ok _)

theorem writeChecked_refusesPlainly {α : Type} {x : Except Status α} (h : RefusesPlainly x) (fits : α → Bool) (write : α → State) :
    RefusesPlainly (writeChecked x fits write) := by
  unfold writeChecked
  split
  · exact fun st hst => h st (by rw [Except.error.injEq] at hst; rw [hst])
  · split
    · exact refusesPlainly_ok _
    · exact refusesPlainly_outOfRange

theorem writeEntry_refusesPlainly (s : State) (table : TableName) (i : Nat) (bs : List Byte) :
    RefusesPlainly (s.writeEntry table i bs) := by
  unfold State.writeEntry
  cases table with
  | device => exact writeChecked_refusesPlainly (decodeDevice_refusesPlainly bs) _ _
  | classifier =>
    dsimp only
    split
    · exact writeChecked_refusesPlainly (decodeClass_refusesPlainly bs) _ _
    · exact refusesPlainly_outOfRange
  | point =>
    dsimp only
    split
    · exact writeChecked_refusesPlainly (decodePoint_refusesPlainly bs) _ _
    · exact refusesPlainly_outOfRange
  | actuator =>
    dsimp only
    split
    · exact writeChecked_refusesPlainly (decodeActuator_refusesPlainly bs) _ _
    · exact refusesPlainly_outOfRange
  | object =>
    dsimp only
    split
    · exact writeChecked_refusesPlainly (decodeObject_refusesPlainly bs) _ _
    · exact refusesPlainly_outOfRange
  | zone =>
    dsimp only
    split
    · exact writeChecked_refusesPlainly (decodeZone_refusesPlainly bs) _ _
    · exact refusesPlainly_outOfRange
  | schedule =>
    dsimp only
    split
    · exact writeChecked_refusesPlainly (decodeWeek_refusesPlainly bs) _ _
    · exact writeChecked_refusesPlainly (decodeHoliday_refusesPlainly bs) _ _
    · exact refusesPlainly_outOfRange
  | notice =>
    dsimp only
    split
    · exact writeChecked_refusesPlainly (decodeNotice_refusesPlainly bs) _ _
    · exact refusesPlainly_outOfRange

/-! ### What a write leaves, once its table stands -/

/-- From `s` to `t` the units take the effects of a write: tables, clock, SAVE flag, stacks, store, reset and commands stay. -/
structure WriteTaken (s t : State) : Prop where
  tables : t.tables = s.tables
  clock : t.clock = s.clock
  save : t.save = s.save
  overrides : t.overrides = s.overrides
  store : t.store = s.store
  resetting : t.resetting = s.resetting
  pending : t.pending = s.pending

theorem WriteTaken.refl (s : State) : WriteTaken s s := ⟨rfl, rfl, rfl, rfl, rfl, rfl, rfl⟩

theorem WriteTaken.trans {s t u : State} (h : WriteTaken s t) (k : WriteTaken t u) : WriteTaken s u :=
  ⟨k.tables.trans h.tables, k.clock.trans h.clock, k.save.trans h.save, k.overrides.trans h.overrides, k.store.trans h.store,
    k.resetting.trans h.resetting, k.pending.trans h.pending⟩

theorem WriteTaken.of_governs {s t : State} (h : Governs s t) : WriteTaken s t :=
  ⟨h.tables, h.clock, h.save, h.overrides, h.store, h.resetting, h.pending⟩

theorem setPresence_writeTaken (s : State) (z : Fin 16) (present : Bool) (absence : Option Nat) :
    WriteTaken s (s.setPresence z present absence) := by
  have hset : WriteTaken s (s.setZone z { s.zones[z] with present, absence }) := ⟨rfl, rfl, rfl, rfl, rfl, rfl, rfl⟩
  unfold State.setPresence
  dsimp only
  split
  · exact hset
  · exact hset.trans (.of_governs (reevaluateAll_issues _ _).governs)

theorem ceaseTold_writeTaken (s : State) (counted : Bool) (former : Option (Fin 16)) : WriteTaken s (s.ceaseTold counted former) := by
  unfold State.ceaseTold State.countTold
  split
  · split
    · split
      · exact .refl s
      · split
        · exact setPresence_writeTaken _ _ _ _
        · split
          · exact .refl s
          · exact setPresence_writeTaken _ _ _ _
    · exact .refl s
  · exact .refl s

theorem membersTold_writeTaken (s : State) (zone : Option (Fin 16)) (hadNone : Bool) : WriteTaken s (s.membersTold zone hadNone) := by
  unfold State.membersTold State.membershipTold
  split
  · split
    · exact .refl s
    · split
      · exact setPresence_writeTaken _ _ _ _
      · split
        · exact setPresence_writeTaken _ _ _ _
        · exact .refl s
  · exact .refl s

theorem edges_writeTaken (s : State) (es : List (Fin 324 × Edge)) : WriteTaken s (s.edges es) :=
  .of_governs (edges_issues s es).governs

theorem writePoint_writeTaken (s : State) (p : Fin 64) (r : Option PointRec) :
    WriteTaken (s.setTables { s.tables with points := s.tables.points.set p r }) (s.writePoint p r) := by
  have hset : WriteTaken (s.setTables { s.tables with points := s.tables.points.set p r })
      ((s.setTables { s.tables with points := s.tables.points.set p r }).setPoint p (freshPoint r)) :=
    ⟨rfl, rfl, rfl, rfl, rfl, rfl, rfl⟩
  have hdeparture : ∀ t : State, WriteTaken t (if s.points[p].isValid = true then t.lightDeparture p else t) := by
    intro t
    split
    · exact .of_governs (lightDeparture_governs _ _)
    · exact .refl t
  have hceased := (hset.trans (hdeparture _)).trans (ceaseTold_writeTaken _ s.points[p].counts (presenceZone s.tables.points[p]))
  unfold State.writePoint
  dsimp only
  refine .trans ?_ (edges_writeTaken _ _)
  split
  · exact hceased
  · exact (hceased.trans (membersTold_writeTaken _ _ _)).trans (membersTold_writeTaken _ _ _)

theorem writeActuator_writeTaken (s : State) (a : Fin 64) (r : Option ActRec) :
    WriteTaken (s.setTables { s.tables with actuators := s.tables.actuators.set a r }) (s.writeActuator a r) := by
  have hserve : ∀ t : State, Issues t (t.serveAtWrite a) := by
    intro t
    unfold State.serveAtWrite
    split
    · exact .refl t
    · split
      · exact serveMark_issues _ _
      · exact .refl t
  unfold State.writeActuator
  dsimp only
  refine .trans ?_ (.of_governs
    (((moveActuator_issues _ a (actAfterWrite s.actuators[a] s.tables.actuators[a] r)).trans (reevaluate_issues _ a)).trans
      (hserve _)).governs)
  exact ⟨rfl, rfl, rfl, rfl, rfl, rfl, rfl⟩

theorem writeObject_writeTaken (s : State) (i : Fin 128) (r : Option ObjectRec) :
    WriteTaken (s.setTables { s.tables with objects := s.tables.objects.set i r }) (s.writeObject i r) :=
  .of_governs (commitAccount_governs _ _ _)

theorem writeZone_writeTaken (s : State) (z : Fin 16) (r : Option ZoneRec) :
    WriteTaken (s.setTables { s.tables with zones := s.tables.zones.set z r }) (s.writeZone z r) := by
  unfold State.writeZone
  dsimp only
  refine .trans ?_ ((WriteTaken.of_governs
    (governs_chains.inFreeOrder (fun s n => deliver_governs s z n) _ _)).trans (edges_writeTaken _ _))
  exact ⟨rfl, rfl, rfl, rfl, rfl, rfl, rfl⟩

theorem scheduleChanged_writeTaken (s : State) : WriteTaken s s.scheduleChanged := by
  have hphase : WriteTaken s s.evaluatePhase.1 := ⟨rfl, rfl, rfl, rfl, rfl, rfl, rfl⟩
  have htaken : ∀ t : State, WriteTaken t t.takePhase := by
    intro t
    unfold State.takePhase
    refine .trans ?_ (.of_governs
      (governs_chains.foldl (fun u z => governs_chains.inFreeOrder (fun u n => deliver_governs u z n) _ u) _ _))
    exact ⟨rfl, rfl, rfl, rfl, rfl, rfl, rfl⟩
  unfold State.scheduleChanged
  dsimp only
  split
  · exact hphase.trans (htaken _)
  · exact hphase

/-- Tables in which one entry has been set (R173). -/
inductive OneEntrySet (t : Tables) : TableName → Nat → Tables → Prop
  | device (i : Nat) (e : DeviceEntry) : OneEntrySet t .device i { t with device := e }
  | classifier (k : Fin 96) (e : Option ClassEntry) :
    OneEntrySet t .classifier k.val { t with classifier := t.classifier.set k e }
  | point (p : Fin 64) (r : Option PointRec) : OneEntrySet t .point p.val { t with points := t.points.set p r }
  | actuator (a : Fin 64) (r : Option ActRec) : OneEntrySet t .actuator a.val { t with actuators := t.actuators.set a r }
  | object (k : Fin 128) (r : Option ObjectRec) : OneEntrySet t .object k.val { t with objects := t.objects.set k r }
  | zone (z : Fin 16) (r : Option ZoneRec) : OneEntrySet t .zone z.val { t with zones := t.zones.set z r }
  | week (w : Fin 7) (e : WeekEntry) : OneEntrySet t .schedule w.val { t with week := t.week.set w e }
  | holiday (k : Fin 16) (day : Option Nat) :
    OneEntrySet t .schedule (7 + k.val) { t with holidays := t.holidays.set k day }
  | notice (src : Fin 324) (e : NoticeEntry) : OneEntrySet t .notice src.val { t with notices := t.notices.set src e }

/-- The write of an entry sets its one entry in the tables, and the units take the rest (R173). -/
theorem entryWrite_writeTaken {s t : State} {bs : List Byte} {table : TableName} {i : Nat} (h : EntryWrite s bs table i t) :
    ∃ T, OneEntrySet s.tables table i T ∧ WriteTaken (s.setTables T) t := by
  cases h with
  | device i h => exact ⟨_, .device i _, ⟨rfl, rfl, rfl, rfl, rfl, rfl, rfl⟩⟩
  | classifier k h hfits => exact ⟨_, .classifier k _, .refl _⟩
  | point p h => exact ⟨_, .point p _, writePoint_writeTaken _ _ _⟩
  | actuator a h => exact ⟨_, .actuator a _, writeActuator_writeTaken _ _ _⟩
  | object k h hfits => exact ⟨_, .object k _, writeObject_writeTaken _ _ _⟩
  | zone z h => exact ⟨_, .zone z _, writeZone_writeTaken _ _ _⟩
  | week w h => exact ⟨_, .week w _, scheduleChanged_writeTaken _⟩
  | holiday k h => exact ⟨_, .holiday k _, scheduleChanged_writeTaken _⟩
  | notice src h => exact ⟨_, .notice src _, .refl _⟩

/-! ### Every other entry reads as before -/

/-- Reading an index other than the one set. -/
theorem map_index?_set_ne {α : Type} {n : Nat} (v : Vector α n) (k : Fin n) (x : α) (f : α → List Byte) {i : Nat} (h : i ≠ k.val) :
    (index? i n).map (fun j => f (v.set k x)[j]) = (index? i n).map (fun j => f v[j]) := by
  cases hj : index? i n with
  | none => rfl
  | some j =>
    have hval := val_of_index?_eq_some hj
    have hne : k.val ≠ j.val := by omega
    simp [Vector.getElem_set_ne _ _ hne]

/-- SCHEDULE entries 0 to 6 are the week. -/
theorem readEntry_week (t : Tables) (w : Fin 7) : readEntry t .schedule w.val = some (encodeWeek t.week[w]) := by
  unfold readEntry
  simp only [index?_eq_some w rfl]

/-- SCHEDULE entries 7 to 22 are the holidays. -/
theorem readEntry_holiday (t : Tables) {i : Nat} (h : 7 ≤ i) :
    readEntry t .schedule i = (index? (i - 7) 16).map (fun k => encodeHoliday t.holidays[k]) := by
  unfold readEntry
  simp only [index?_eq_none h]
  cases index? (i - 7) 16 <;> rfl

theorem readEntry_week_ne (t : Tables) (w : Fin 7) (e : WeekEntry) {i : Nat} (h : i ≠ w.val) :
    readEntry { t with week := t.week.set w e } .schedule i = readEntry t .schedule i := by
  by_cases hi : i < 7
  · have hne : w.val ≠ i := fun heq => h heq.symm
    have hset := readEntry_week { t with week := t.week.set w e } ⟨i, hi⟩
    have hwas := readEntry_week t ⟨i, hi⟩
    rw [hset, hwas]
    simp [Vector.getElem_set_ne _ _ hne]
  · rw [readEntry_holiday _ (Nat.not_lt.1 hi), readEntry_holiday _ (Nat.not_lt.1 hi)]

theorem readEntry_holiday_ne (t : Tables) (k : Fin 16) (day : Option Nat) {i : Nat} (h : i ≠ 7 + k.val) :
    readEntry { t with holidays := t.holidays.set k day } .schedule i = readEntry t .schedule i := by
  by_cases hi : i < 7
  · exact (readEntry_week _ ⟨i, hi⟩).trans (readEntry_week t ⟨i, hi⟩).symm
  · rw [readEntry_holiday _ (Nat.not_lt.1 hi), readEntry_holiday _ (Nat.not_lt.1 hi)]
    exact map_index?_set_ne t.holidays k day encodeHoliday (by omega)

/-- An entry of another table reads as before: a table's reading looks at its own field only. -/
theorem readEntry_otherTable {t T : Tables} {table : TableName} {i : Nat} (h : OneEntrySet t table i T) {table' : TableName}
    (hother : table' ≠ table) (i' : Nat) : readEntry T table' i' = readEntry t table' i' := by
  cases h <;> cases table' <;> simp only [ne_eq, not_true_eq_false, reduceCtorEq, not_false_eq_true] at hother <;> rfl

/-- Another entry of the table reads as before. -/
theorem readEntry_otherIndex {t T : Tables} {table : TableName} {i : Nat} (h : OneEntrySet t table i T) (hsize : i < table.size)
    {i' : Nat} (hother : i' ≠ i) : readEntry T table i' = readEntry t table i' := by
  cases h with
  | device i e =>
    have hi : i = 0 := Nat.lt_one_iff.1 hsize
    exact (if_neg (hi ▸ hother)).trans (if_neg (hi ▸ hother)).symm
  | classifier k e => exact map_index?_set_ne t.classifier k e encodeClass hother
  | point p r => exact map_index?_set_ne t.points p r encodePoint hother
  | actuator a r => exact map_index?_set_ne t.actuators a r encodeActuator hother
  | object k r => exact map_index?_set_ne t.objects k r encodeObject hother
  | zone z r => exact map_index?_set_ne t.zones z r encodeZone hother
  | week w e => exact readEntry_week_ne t w e hother
  | holiday k day => exact readEntry_holiday_ne t k day hother
  | notice src e => exact map_index?_set_ne t.notices src e encodeNotice hother

/-! ### The request -/

section LoadEntry

variable {s : State} {r : Request} (hserving : serving s)
include hserving

/-- Outside a reset and with no save in flight, LOAD_ENTRY is answered by its own rule (R170, R181). -/
theorem exec_loadEntry_serving {a : Answer} (h : answerLoadEntry s r.params = a) :
    exec (.loadEntry r) s = .next (answered s a.1 0x21 r a.2.1 a.2.2) := by
  rw [exec_loadEntry]
  exact congrArg _ (State.serve_eq s 0x21 r answerLoadEntry hserving a h)

variable (hsave : s.save = none)
include hsave

theorem exec_loadEntry_notOpen (hload : s.load = none) :
    exec (.loadEntry r) s = .next (answered s s 0x21 r .loadNotOpen []) := by
  refine exec_loadEntry_serving hserving (a := refuse s .loadNotOpen) ?_
  simp only [answerLoadEntry, unlessBusy, hsave, hload]
  rfl

theorem exec_loadEntry_refused {c : LoadCtx} {st : Status} (hload : s.load = some c)
    (hwrite : s.writeEntry c.table c.next r.params = .error st) :
    exec (.loadEntry r) s = .next (answered s s 0x21 r st []) := by
  refine exec_loadEntry_serving hserving (a := refuse s st) ?_
  simp only [answerLoadEntry, unlessBusy, hsave, hload, hwrite]
  rfl

theorem exec_loadEntry_written {c : LoadCtx} {t : State} (hload : s.load = some c)
    (hwrite : s.writeEntry c.table c.next r.params = .ok t) :
    exec (.loadEntry r) s =
      .next (answered s { t with load := c.moved } 0x21 r .ok (num16 c.next ++ num16 (c.remaining - 1))) := by
  refine exec_loadEntry_serving hserving
    (a := (t.setLoad c.moved, .ok, num16 c.next ++ num16 (c.remaining - 1))) ?_
  simp only [answerLoadEntry, unlessBusy, hsave, hload, hwrite]
  rfl

end LoadEntry

/-- R176: a NOTICE entry of a byte is written. -/
theorem State.writeEntry_notice (s : State) (src : Fin 324) (e : Byte) (rest : List Byte) :
    s.writeEntry .notice src.val (e :: rest) = .ok (s.writeNotice src ⟨e.getLsbD 0, e.getLsbD 1⟩) := by
  unfold State.writeEntry
  simp only [index?_eq_some src rfl]
  rfl

/-- R176: an accepted DEVICE entry is written. -/
theorem State.writeEntry_device (s : State) (i : Nat) {bs : List Byte} {e : DeviceEntry} (h : decodeDevice bs = .ok e) :
    s.writeEntry .device i bs = .ok (s.writeDevice e) := by
  unfold State.writeEntry
  simp only [h]
  rfl

/-- R13: a port at a write of the DEVICE entry, in the terms of the statements. -/
theorem PortState.rateWritten_eq (q : PortState) (was rate : LineRate) :
    q.rateWritten was rate =
      if was = rate then q
      else if q.tx = none then { q with assembly := .discarding, rate := rate, rateDue := false }
      else { q with rateDue := true } := by
  unfold PortState.rateWritten
  cases h : q.tx <;> simp [PortState.withRate, h]

/-- Settles O38: the request by its answer, the other entries by the table written, and the two tables with a form of their
own. -/
theorem loadEntriesWriteOneEntry : Obligations.LoadEntriesWriteOneEntry := by
  intro s r hserving hsave
  refine ⟨exec_loadEntry_notOpen hserving hsave, fun c hload => ⟨fun st hwrite => ?_, fun t hwrite => ?_, ?_, ?_⟩⟩
  · exact ⟨writeEntry_refusesPlainly _ _ _ _ st hwrite, exec_loadEntry_refused hserving hsave hload hwrite⟩
  · obtain ⟨T, hset, htaken⟩ := entryWrite_writeTaken (entryWrite_of_ok hwrite)
    refine ⟨exec_loadEntry_written hserving hsave hload hwrite, fun table i hsize hother => ?_, htaken.clock, htaken.save,
      htaken.overrides, htaken.store, htaken.resetting, htaken.pending⟩
    rw [show t.tables = T from htaken.tables]
    by_cases htable : table = c.table
    · subst htable
      exact readEntry_otherIndex hset hsize (hother.resolve_left (fun h => h rfl))
    · exact readEntry_otherTable hset htable i
  · intro i e rest htable hnext hparams
    have hwrite : s.writeEntry c.table c.next r.params = .ok (s.writeNotice i ⟨e.getLsbD 0, e.getLsbD 1⟩) := by
      rw [htable, hnext, hparams, State.writeEntry_notice]
    exact exec_loadEntry_written hserving hsave hload hwrite
  · intro e htable hdecode port d
    have hwrite : s.writeEntry c.table c.next r.params = .ok (s.writeDevice e) := by
      rw [htable, State.writeEntry_device s c.next hdecode]
    rw [exec_loadEntry_written hserving hsave hload hwrite]
    unfold State.writeDevice
    simp only [PortState.rateWritten_eq]
    rfl

end Sys2Proof.Machine
end
